-- ==== Sys2Proof/Word.lean ====
section
/-! DEFINITION. The widths of the wire: bytes, half words and 32-bit words (11.1). -/

namespace Sys2Proof

/-- One byte of a frame (11.1). -/
abbrev Byte := BitVec 8

/-- A two-byte field of a frame (11.1). -/
abbrev Half := BitVec 16

/-- A web position (R1), a serial (R45), a counter or a notice value: 32 bits. -/
abbrev Word := BitVec 32

end Sys2Proof
end

