-- ==== Sys2Proof/Syntax.lean ====
section
/-! DEFINITION. The commands: one constructor per row of spec/opcode_table.json, with the fields that the
event carries (R180, R181). Bytes are kept as received; each rule says what it reads of them. -/

namespace Sys2Proof

/-- A command that the part takes from outside, one row of the table each. -/
inductive Instr
  /-- POWER_ON_RESET: the RESET pin, with the number read from ADDR5 to ADDR0 (R171). -/
  | powerOnReset (straps : BitVec 6)
  /-- VALID_FRAME: a frame at link-in that passes the checks of R169, with its bytes. -/
  | validFrame (bytes : List Byte)
  /-- BAD_FRAME: a frame at link-in that fails a check of R169, with its bytes. -/
  | badFrame (bytes : List Byte)
  /-- WEBPOS: the reported position (R10). -/
  | webpos (reported : Word)
  /-- MARKEV: channel and edge bytes and the captured position (R18). -/
  | markev (channel edge : Byte) (captured : Word)
  /-- INSPECT: position-valid flag, lane set, captured position and defect length (R67). -/
  | inspect (valid lanes : Byte) (captured : Word) (length : Half)
  /-- SPLICE: the captured position (R68). -/
  | splice (captured : Word)
  /-- WEBBREAK: nothing of its payload is read (R164). -/
  | webbreak
  /-- CUTMEAS: valid flag and signed cut error (R93). -/
  | cutmeas (valid : Byte) (error : Half)
  /-- STKREADY: lane and stack number (R133). -/
  | stkready (lane : Byte) (number : Half)
  /-- STKFAULT: lane (R134). -/
  | stkfault (lane : Byte)
  /-- OWN_EMPTY_SLOT_OFFER: the place, 0 to 31, of the own EMPTY slot in the frame in passage (R143). -/
  | ownEmptySlotOffer (slot : BitVec 5)
  /-- LINK_LOSS_TIMER_EXPIRY: the link-loss timer has run its whole interval (R172). -/
  | linkLossTimerExpiry
  /-- CHANGE_TIMER_EXPIRY: the lane's change timer has reached its timeout (R132). -/
  | changeTimerExpiry (lane : Fin 8)
  /-- READ: table identifier, start index and entry count (R175). -/
  | read (table : Byte) (index : Half) (count : Byte)
  /-- WRITE_JOB: start index, entry count and the request data area (R157). -/
  | writeJob (index : Half) (count : Byte) (data : List Byte)
  /-- WRITE_STATION (R4). -/
  | writeStation (index : Half) (count : Byte) (data : List Byte)
  /-- WRITE_LOOP (R81). -/
  | writeLoop (index : Half) (count : Byte) (data : List Byte)
  /-- WRITE_SENSOR (R17). -/
  | writeSensor (index : Half) (count : Byte) (data : List Byte)
  /-- WRITE_LANE (R119). -/
  | writeLane (index : Half) (count : Byte) (data : List Byte)
  /-- WRITE_DISP (R102). -/
  | writeDisp (index : Half) (count : Byte) (data : List Byte)
  /-- WRITE_OVERRIDE (R103). -/
  | writeOverride (index : Half) (count : Byte) (data : List Byte)
  /-- WRITE_SCHED (R149). -/
  | writeSched (index : Half) (count : Byte) (data : List Byte)
  /-- READ_STATUS (R176). -/
  | readStatus
  /-- READ_COUNTERS: selector and clear flag (R177). -/
  | readCounters (selector clear : Byte)
  /-- ACK_ALARMS (R36). -/
  | ackAlarms
  /-- LANE_ENABLE: lane (R136). -/
  | laneEnable (lane : Byte)
  /-- CLOSE_STACK: lane (R137). -/
  | closeStack (lane : Byte)
  /-- ARM (R158). -/
  | arm
  /-- START (R160). -/
  | start
  /-- END (R161). -/
  | endJob
  /-- HALT (R165). -/
  | halt
  /-- RESUME (R167). -/
  | resume
  /-- CLEAR (R168). -/
  | clear
  /-- RESET: the soft reset (R178). -/
  | softReset
  /-- UNKNOWN_REQUEST_KIND: a request kind that Table 11-10 does not name (R174). -/
  | unknownRequestKind (kind : Byte)
  /-- WRITE_NO_TABLE: a WRITE whose identifier names no table, with the fields it carries (R175). -/
  | writeNoTable (table : Byte) (index : Half) (count : Byte) (data : List Byte)
deriving DecidableEq, Repr

end Sys2Proof
end

