-- ==== Sys2Proof/Decode.lean ====
section
/-! DEFINITION. Reading a command from a word. spec/opcode_table.json gives no row any bits ("fields": [] and
no "fixed" in all 37 rows), so no word spells a command (log entry 20). The bytes of frames, slots and
requests are read in Machine/Link.lean. -/

namespace Sys2Proof

/-- The command that the word `w` of `nbits` bits spells by the table's bits: none, since no row has any. -/
def decodeTableWord (nbits w : Nat) : Option Instr :=
  match nbits, w with
  | _, _ => none

end Sys2Proof
end

