-- ==== Sys2Proof/Config.lean ====
section
/-! DEFINITION. The capacities the manual fixes, and the four values it leaves open (no body: no proof can
see them). -/

namespace Sys2Proof.Config

/-- The repeat queue never holds more records than this (R41). -/
def queueCapacity : Nat := 256

/-- The defect zone list never holds more zones than this (R65). -/
def zoneCapacity : Nat := 64

/-- Places of the KNIFE queue (Table 8-1). -/
def knifeCapacity : Nat := 8

/-- Places of the GATE queue (Table 8-1). -/
def gateCapacity : Nat := 16

/-- Places of the STACK queue (Table 8-1). -/
def stackCapacity : Nat := 8

/-- Places of the NOTICE queue (Table 8-1). -/
def noticeCapacity : Nat := 16

/-- Stack records that a lane's stack list holds at most (R122). -/
def stackListCapacity : Nat := 4

/-- Places of the pitch sample ring (R31). -/
def ringCapacity : Nat := 32

/-- FREE VALUE (log entry 7). The distance between the zones [a, b] and [c, d] that do not overlap and of
which neither is beyond the other, so that R73 step 1 gives no distance. -/
opaque mergeDistance (a b c d : Word) : Nat

/-- FREE VALUE (log entry 7). Whether the distance between the zones [a, b] and [c, d], each of which is beyond
the other, is c − b and not a − d, the other distance that R73 step 1 gives them. -/
opaque mergeMeasuresUp (a b c d : Word) : Bool

/-- FREE VALUE (log entry 8). Whether a merge takes the new zone's x_lo where it and the listed zone's x_lo stand
exactly 2^31 ticks apart, so that R74 calls neither the earlier. -/
opaque mergeLoTakesNew (new listed : Word) : Bool

/-- FREE VALUE (log entry 8). Whether a merge takes the new zone's x_hi where it and the listed zone's x_hi stand
exactly 2^31 ticks apart, so that R74 calls neither the later. It is not tied to mergeLoTakesNew. -/
opaque mergeHiTakesNew (new listed : Word) : Bool

end Sys2Proof.Config
end

