-- ==== Sys2Proof/Machine/State.lean ====
section
/-! DEFINITION. Everything the part holds (Table 1-1), block by block, as plain data; why a step may stop;
and the machine right after power-on reset. -/

namespace Sys2Proof.Machine

/-! ## Job controller (section 9) -/

/-- The job states (Table 9-1, R155). -/
inductive JobState
  | config | armed | run | ending | hold
deriving DecidableEq, Repr

/-- The hold causes (R155, Table 9-6). -/
inductive HoldCause
  | none | halt | webBreak | linkLoss | reverse | jump | queueFull
deriving DecidableEq, Repr

/-- The missing-mark policy (Table 9-4). -/
inductive MarkPolicy
  | stack | reject
deriving DecidableEq, Repr

/-- The JOB record (Table 9-4). -/
structure JobRec where
  /-- Lane count L. -/
  lanes : Nat
  /-- Repeat length in ticks. -/
  pitch : Nat
  /-- Design cycle length C. -/
  cycle : Nat
  /-- Mark-to-cut offset m2c in ticks. -/
  m2c : Nat
  /-- Mark acceptance half-window W in ticks. -/
  window : Nat
  /-- Missing limit in windows. -/
  missingLimit : Nat
  /-- Pitch average depth n. -/
  depth : Nat
  /-- Pitch low threshold in ticks. -/
  lowThreshold : Nat
  /-- Pitch high threshold in ticks. -/
  highThreshold : Nat
  /-- Alarm window mode, on or off. -/
  windowMode : Bool
  /-- Missing-mark policy. -/
  policy : MarkPolicy
  /-- Splice margin before in ticks. -/
  marginBefore : Nat
  /-- Splice margin after in ticks. -/
  marginAfter : Nat
deriving DecidableEq, Repr

/-- The STATION record (Table 1-8). -/
structure StationRec where
  /-- Camera offset dC, signed. -/
  dC : Int
  /-- Splice detector offset dU, signed. -/
  dU : Int
  /-- Knife offset dK. -/
  dK : Nat
  /-- Cut-check offset dX. -/
  dX : Nat
  /-- Gate offset dG. -/
  dG : Nat
  /-- Stacker offset dS. -/
  dS : Nat
  knifeHorizon : Nat
  knifeLead : Nat
  gateHorizon : Nat
  gateLead : Nat
  reverseTolerance : Nat
  knifeNode : Nat
  gateNode : Nat
  /-- Ring timeout in ms. -/
  ringTimeout : Nat
deriving DecidableEq, Repr

/-- The LOOP record (Table 5-2). -/
structure LoopRec where
  kp : Nat
  ki : Nat
  limit : Nat
  maxStep : Nat
  lockTolerance : Nat
  unlockTolerance : Nat
deriving DecidableEq, Repr

/-- The job controller's state (R155, R157, R6, R80, R159). -/
structure JobControl where
  state : JobState
  cause : HoldCause
  job : JobRec
  station : StationRec
  loop : LoopRec
  /-- The validated limit (R159). -/
  validated : Nat
deriving DecidableEq, Repr

/-! ## Registration unit (section 2) -/

/-- The registration states, which are also the classes of records (R20, R42). -/
inductive RegState
  | free | acquire | locked
deriving DecidableEq, Repr

/-- How a record came to be (R42). -/
inductive Origin
  | marked | predicted | free
deriving DecidableEq, Repr

/-- The edges of a mark (R17). -/
inductive Edge
  | leading | trailing
deriving DecidableEq, Repr

/-- The registration unit's state (section 2). -/
structure Registration where
  /-- The SENSOR table (R17). -/
  edges : Vector Edge 2
  state : RegState
  /-- The last anchor (R23). -/
  lastAnchor : Word
  /-- The last origin; absent is NONE (R23). -/
  lastOrigin : Option Origin
  /-- The missing-mark counter (R40). -/
  missing : Nat
  /-- The pitch sample ring, newest sample first (R31). -/
  samples : List Int
  /-- The pitch estimate last computed; R32 reads it only while the ring holds 2^n samples. -/
  estimate : Int
  /-- PITCH_LOW (R34). -/
  pitchLow : Bool
  /-- PITCH_HIGH (R34). -/
  pitchHigh : Bool
  /-- The design counter (R38). -/
  design : Nat
  /-- The first-record flag (R38). -/
  firstRecord : Bool
  /-- The cycle-pending flag (R37). -/
  cyclePending : Bool
  seekSkip : Word
  stray : Word
  designSlip : Word
deriving DecidableEq, Repr

/-! ## Tracking unit (sections 1, 3 and 4) -/

/-- The cut states of a record (Table 3-1). -/
inductive CutState
  | pending | queued | sent | late
deriving DecidableEq, Repr

/-- The check states of a record (Table 3-1). -/
inductive CheckState
  | unchecked | checked | ignored | noCheck
deriving DecidableEq, Repr

/-- The commit states of a record (Table 3-1). -/
inductive CommitState
  | uncommitted | committed
deriving DecidableEq, Repr

/-- The actions of an OVERRIDE entry, and the override result of a lane entry (R103, R43). -/
inductive OverrideAction
  | forceReject | forceAccept
deriving DecidableEq, Repr

/-- The outcomes of a label (R43). -/
inductive LabelOutcome
  | stack | reject | waste | divert | gap
deriving DecidableEq, Repr

/-- A record's entry for one lane (R43). -/
structure LaneEntry where
  defect : Bool
  splice : Bool
  override : Option OverrideAction
  outcome : Option LabelOutcome
  stackRef : Option Nat
deriving DecidableEq, Repr

/-- A repeat record (Table 3-1). -/
structure Record where
  serial : Word
  design : Nat
  anchor : Word
  origin : Origin
  cls : RegState
  nominalStart : Word
  /-- Absent while the record is open (R47). -/
  nominalEnd : Option Word
  cut : CutState
  cutLine : Option Word
  check : CheckState
  /-- The TAIL flag (R59). -/
  tail : Bool
  /-- The LATE_NEXT flag (R53). -/
  lateNext : Bool
  commit : CommitState
  lanes : Vector LaneEntry 8
deriving DecidableEq, Repr

/-- The kinds of a zone (R65). -/
inductive ZoneKind
  | defect | splice
deriving DecidableEq, Repr

/-- A zone record (R65): both bounds belong to it, bit k of the lane set stands for lane k. -/
structure Zone where
  kind : ZoneKind
  lo : Word
  hi : Word
  lanes : Byte
deriving DecidableEq, Repr

/-- The tracking unit's state (R9, R15, R41, R45, R65, R78). -/
structure Tracking where
  /-- The tracked position P (R9). -/
  pos : Word
  posHeld : Word
  /-- The repeat queue, oldest record first (R41). -/
  queue : List Record
  nextSerial : Word
  /-- The defect zone list, in list order (R65). -/
  zones : List Zone
  stale : Word
  zoneMerge : Word
deriving DecidableEq, Repr

/-! ## Cut controller (section 5) -/

/-- The cut controller's state (R84, R100). -/
structure CutControl where
  /-- The integral accumulator I, in 1/256 tick. -/
  integral : Int
  /-- The correction target, in ticks. -/
  target : Int
  /-- The applied correction, in ticks. -/
  applied : Int
  /-- The ramp value. -/
  ramp : Nat
  strayMeas : Word
  lateCut : Word
deriving DecidableEq, Repr

/-! ## Disposition unit (section 6) -/

/-- The actions of a DISP entry (R101). -/
inductive DispAction
  | stack | waste | follow
deriving DecidableEq, Repr

/-- A DISP entry (R101). -/
structure DispEntry where
  valid : Bool
  action : DispAction
deriving DecidableEq, Repr

/-- An OVERRIDE entry (R103). -/
structure OverrideEntry where
  valid : Bool
  action : OverrideAction
  first : Word
  last : Word
  lanes : Byte
deriving DecidableEq, Repr

/-- The counters of one lane (R109), in the order of Table 11-9. -/
structure LaneCounters where
  stacked : Word
  rejected : Word
  wasted : Word
  gap : Word
  diverted : Word
  lost : Word
  lateInfo : Word
  lateGate : Word
deriving DecidableEq, Repr

/-- A range of serials, from the first upward through the last (R114). -/
structure SerialRange where
  first : Word
  last : Word
deriving DecidableEq, Repr

/-- The disposition unit's state (R101, R103, R109, R114). -/
structure Disposition where
  /-- The DISP table, entry design x 8 + lane (R101). -/
  disp : Vector DispEntry 128
  overrides : Vector OverrideEntry 32
  counters : Vector LaneCounters 8
  /-- The late-gate lists, oldest range first (R114). -/
  lateGates : Vector (List SerialRange) 8
deriving DecidableEq, Repr

/-! ## Stacking unit (section 7) -/

/-- The stacker states (R121). -/
inductive StackerState
  | ready | fault
deriving DecidableEq, Repr

/-- The fault causes of a lane (R121). -/
inductive FaultCause
  | none | holdOverrun | timeout | node
deriving DecidableEq, Repr

/-- The states of a stack record (R122). -/
inductive StackState
  | assigning | filled | changing
deriving DecidableEq, Repr

/-- A stack record (R122). -/
structure StackRec where
  number : Nat
  design : Nat
  assigned : Nat
  arrived : Nat
  held : Nat
  target : Nat
  /-- The suspect count. -/
  suspect : Nat
  /-- The SHORT flag. -/
  short : Bool
  /-- Change requested. -/
  requested : Bool
  state : StackState
deriving DecidableEq, Repr

/-- A running change timer (R121): cycle frames counted, and the timeout it was started with. -/
structure ChangeTimer where
  count : Nat
  timeout : Nat
deriving DecidableEq, Repr

/-- The state of one lane's stacker (R121). -/
structure StackLane where
  state : StackerState
  cause : FaultCause
  /-- The gap counter. -/
  gap : Nat
  /-- The next stack number. -/
  next : Nat
  /-- The change timer; absent is stopped. -/
  timer : Option ChangeTimer
  /-- The stack list, oldest record first. -/
  list : List StackRec
deriving DecidableEq, Repr

/-- A LANE entry (Table 7-2). -/
structure LaneCfg where
  enabled : Bool
  node : Nat
  target : Nat
  changeGap : Nat
  holdLimit : Nat
  timeout : Nat
  gatePre : Nat
  gatePost : Nat
deriving DecidableEq, Repr

/-- The stacking unit's state (R119, R121, R141). -/
structure Stacking where
  cfg : Vector LaneCfg 8
  lanes : Vector StackLane 8
  strayReady : Word
deriving DecidableEq, Repr

/-! ## Output scheduler (section 8) -/

/-- A KNIFE item (Table 8-1). -/
structure KnifeItem where
  serial : Word
  cutPos : Word
deriving DecidableEq, Repr

/-- A GATE item (Table 8-1). -/
structure GateItem where
  lane : Fin 8
  openPos : Word
  closePos : Word
  first : Word
  last : Word
deriving DecidableEq, Repr

/-- A STACK item (Table 8-1). -/
structure StackItem where
  lane : Fin 8
  number : Nat
deriving DecidableEq, Repr

/-- The kinds of a notice (Table 8-2). -/
inductive NoticeKind
  | jobState | regState | pitchAlarm | stackDone | stackerFault | lateCut | lateInfo | designSlip
  | zoneMerge | linkDown
deriving DecidableEq, Repr

/-- A NOTICE item (R150); an absent lane is H'FF. -/
structure Notice where
  kind : NoticeKind
  lane : Option (Fin 8)
  count : Nat
  value : Word
deriving DecidableEq, Repr

/-- The modes of a SCHED entry (R149). -/
inductive SchedMode
  | strict | ratio
deriving DecidableEq, Repr

/-- A SCHED entry (R149). -/
structure SchedEntry where
  mode : SchedMode
  weight : Nat
deriving DecidableEq, Repr

/-- The output scheduler's state (R142, R148, R149, R152). -/
structure Scheduler where
  knife : List KnifeItem
  gate : List GateItem
  stack : List StackItem
  notices : List Notice
  gateCredit : Nat
  stackCredit : Nat
  noticeCredit : Nat
  /-- The SCHED table: entry 0 GATE, 1 STACK, 2 NOTICE (R149). -/
  table : Vector SchedEntry 3
  noticesDropped : Word
deriving DecidableEq, Repr

/-! ## Link port (section 10) -/

/-- The response codes (Table 10-5). -/
inductive RespCode
  | ok | noTable | badIndex | badAlign | badValue | badLength | wrongState | badJob | badLane
deriving DecidableEq, Repr

/-- A response as written into a service frame: code and the 64 bytes of response data (R174, R181). -/
structure Response where
  code : RespCode
  data : List Byte
deriving DecidableEq, Repr

/-- The link port's state (R171 to R173), and what it shows at link-out (log entry 2). -/
structure LinkPort where
  /-- The node address (R171). -/
  node : BitVec 6
  /-- The link-loss timer: absent is stopped, otherwise its interval in ms (R172). -/
  timer : Option Nat
  /-- LINK_DOWN (R172). -/
  linkDown : Bool
  /-- LINK_DOWN just before the last valid frame was accepted (R176); both resets clear it, the model's choice (log
  entries 2 and 17). -/
  linkDownBefore : Bool
  badFrames : Word
  /-- The frame in passage, as it leaves at link-out (R169). -/
  frame : List Byte
  /-- The slot the last offer wrote; absent where it passed on EMPTY (R143, R180). -/
  slotOut : Option (List Byte)
  /-- The last response written (R174). -/
  response : Option Response
deriving DecidableEq, Repr

/-! ## The machine -/

/-- The part's state: its eight blocks (Table 1-1), and the commands that wait (log entry 3). -/
structure State where
  link : LinkPort
  track : Tracking
  reg : Registration
  cut : CutControl
  disp : Disposition
  stk : Stacking
  sched : Scheduler
  job : JobControl
  pending : List Instr
deriving DecidableEq, Repr

/-- Why a step stops. -/
inductive Fault
  /-- Raised by OWN_EMPTY_SLOT_OFFER when the STACK item to be sent names no record of its lane's stack
  list, which R146 says never happens. Safe: the model stops where the manual describes no machine. -/
  | orphanStackItem
deriving DecidableEq, Repr

/-- Why a command is refused. -/
inductive Refusal
  /-- Raised by exec for a command without a meaning; no arm raises it. Safe. -/
  | notModelled (mnemonic : String)
deriving DecidableEq, Repr

/-! ## Reset values -/

/-- R157: every number 0, window mode off, policy STACK. -/
def JobRec.powerOn : JobRec where
  lanes := 0
  pitch := 0
  cycle := 0
  m2c := 0
  window := 0
  missingLimit := 0
  depth := 0
  lowThreshold := 0
  highThreshold := 0
  windowMode := false
  policy := .stack
  marginBefore := 0
  marginAfter := 0

/-- R6: offsets, horizons, leads and nodes 0, reverse tolerance 200, ring timeout 10. -/
def StationRec.powerOn : StationRec where
  dC := 0
  dU := 0
  dK := 0
  dX := 0
  dG := 0
  dS := 0
  knifeHorizon := 0
  knifeLead := 0
  gateHorizon := 0
  gateLead := 0
  reverseTolerance := 200
  knifeNode := 0
  gateNode := 0
  ringTimeout := 10

/-- R80: every field 0. -/
def LoopRec.powerOn : LoopRec where
  kp := 0
  ki := 0
  limit := 0
  maxStep := 0
  lockTolerance := 0
  unlockTolerance := 0

/-- R155, R159: CONFIG, no cause, validated limit 0. -/
def JobControl.powerOn : JobControl where
  state := .config
  cause := .none
  job := .powerOn
  station := .powerOn
  loop := .powerOn
  validated := 0

/-- R17, R20, R23, R33, R34, R37 to R40 (the held estimate: log entry 16). -/
def Registration.powerOn : Registration where
  edges := Vector.replicate 2 .leading
  state := .free
  lastAnchor := 0#32
  lastOrigin := none
  missing := 0
  samples := []
  estimate := 0
  pitchLow := false
  pitchHigh := false
  design := 0
  firstRecord := false
  cyclePending := false
  seekSkip := 0#32
  stray := 0#32
  designSlip := 0#32

/-- R9, R15, R41, R45, R65, R78. -/
def Tracking.powerOn : Tracking where
  pos := 0#32
  posHeld := 0#32
  queue := []
  nextSerial := 0#32
  zones := []
  stale := 0#32
  zoneMerge := 0#32

/-- R84: all 0, and the ramp value max(1, floor(0 / 32)). -/
def CutControl.powerOn : CutControl where
  integral := 0
  target := 0
  applied := 0
  ramp := 1
  strayMeas := 0#32
  lateCut := 0#32

/-- R109: every lane counter 0. -/
def LaneCounters.zero : LaneCounters where
  stacked := 0#32
  rejected := 0#32
  wasted := 0#32
  gap := 0#32
  diverted := 0#32
  lost := 0#32
  lateInfo := 0#32
  lateGate := 0#32

/-- R101: valid clear, action WASTE. -/
def DispEntry.powerOn : DispEntry where
  valid := false
  action := .waste

/-- R103: valid clear, FORCE_REJECT, serials 0, lane set empty. -/
def OverrideEntry.powerOn : OverrideEntry where
  valid := false
  action := .forceReject
  first := 0#32
  last := 0#32
  lanes := 0#8

/-- R101, R103, R109, R114. -/
def Disposition.powerOn : Disposition where
  disp := Vector.replicate 128 .powerOn
  overrides := Vector.replicate 32 .powerOn
  counters := Vector.replicate 8 .zero
  lateGates := Vector.replicate 8 []

/-- R119. -/
def LaneCfg.powerOn : LaneCfg where
  enabled := false
  node := 0
  target := 100
  changeGap := 0
  holdLimit := 4
  timeout := 4000
  gatePre := 0
  gatePost := 0

/-- R121. -/
def StackLane.powerOn : StackLane where
  state := .ready
  cause := .none
  gap := 0
  next := 1
  timer := none
  list := []

/-- R119, R121, R141. -/
def Stacking.powerOn : Stacking where
  cfg := Vector.replicate 8 .powerOn
  lanes := Vector.replicate 8 .powerOn
  strayReady := 0#32

/-- R149: GATE STRICT 1, STACK RATIO 4, NOTICE RATIO 1. -/
def schedTablePowerOn : Vector SchedEntry 3 :=
  #v[{ mode := .strict, weight := 1 }, { mode := .ratio, weight := 4 }, { mode := .ratio, weight := 1 }]

/-- R142, R148, R152, R154: queues empty, credits reloaded from the table's defaults. -/
def Scheduler.powerOn : Scheduler where
  knife := []
  gate := []
  stack := []
  notices := []
  gateCredit := 0
  stackCredit := 4
  noticeCredit := 1
  table := schedTablePowerOn
  noticesDropped := 0#32

/-- R171: an address from 1 to 62 makes the part addressed. -/
def addressInUse (node : BitVec 6) : Bool :=
  node != 0#6 && node != 63#6

/-- R171 to R173 (the fields of link-out: log entry 2). -/
def LinkPort.powerOn (straps : BitVec 6) : LinkPort where
  node := straps
  timer := if addressInUse straps then some 10 else none
  linkDown := false
  linkDownBefore := false
  badFrames := 0#32
  frame := []
  slotOut := none
  response := none

/-- The part after power-on reset with these straps (R171 and the reset rule of each block). -/
def State.powerOn (straps : BitVec 6) : State where
  link := .powerOn straps
  track := .powerOn
  reg := .powerOn
  cut := .powerOn
  disp := .powerOn
  stk := .powerOn
  sched := .powerOn
  job := .powerOn
  pending := []

/-- The machine right after reset. DESIGN CHOICE (log entry 1): the straps, an input, read 12, the node of
the manual's own session of requests (10.6). -/
def State.reset : State := State.powerOn 12#6

end Sys2Proof.Machine
end

