-- ==== Sys2Proof/Machine/Flags.lean ====
section
/-! DEFINITION. The comparisons and the arithmetic that the rules share: modular positions (R1, R2), clamping
and rounding (1.5.6, R95, R96), saturating counters, serial ranges (R104) and the tests of a frame of
positions against the web. -/

namespace Sys2Proof.Machine

/-- Position a is at or beyond position b (1.5.2, R2). -/
def atOrBeyond (a b : Word) : Bool :=
  decide ((a - b).toNat < 2147483648)

/-- Position a is beyond position b (1.5.2). -/
def beyond (a b : Word) : Bool :=
  atOrBeyond a b && a != b

/-- Position a is behind position b (1.5.2). -/
def behind (a b : Word) : Bool :=
  !atOrBeyond a b

/-- The difference a − b read as a signed 32-bit number (R2). -/
def diff (a b : Word) : Int :=
  (a - b).toInt

/-- The sum of a position and a signed distance, reduced modulo 2^32 (R1). -/
def shift (p : Word) (d : Int) : Word :=
  p + BitVec.ofInt 32 d

/-- Position x lies from lo through hi, both included, in the modular sense (Table 2-2; log entry 10). -/
def fromThrough (x lo hi : Word) : Bool :=
  atOrBeyond x lo && atOrBeyond hi x

/-- Clamping of 1.5.6. -/
def clamp (v lo hi : Int) : Int :=
  if v < lo then lo else if hi < v then hi else v

/-- T / 256 rounded to the nearest integer, ties away from zero (R95 step 4, R96). -/
def round256 (t : Int) : Int :=
  if t < 0 then -((-t + 128) / 256) else (t + 128) / 256

/-- The next value of a 32-bit counter that saturates (1.5.6). -/
def satInc (c : Word) : Word :=
  if c = 0xFFFFFFFF#32 then c else c + 1#32

/-- The serial s lies in the range from first upward through last (R104). -/
def serialInRange (s first last : Word) : Bool :=
  decide ((s - first).toNat ≤ (last - first).toNat)

/-- Lane k belongs to a lane set whose bit k stands for lane k (Table 11-3). -/
def inLaneSet (lanes : Byte) (k : Fin 8) : Bool :=
  lanes.getLsbD k.val

/-- The lane set of the lanes 0 to L − 1 (R67 step 3). -/
def lanesBelow (count : Nat) : Byte :=
  BitVec.ofNat 8 (2 ^ count - 1)

/-- A flag byte of an input slot or a request is set when it is not 0 (R180, R181). -/
def flagSet (b : Byte) : Bool :=
  b != 0#8

/-- The lane that a lane byte names, if it is 0 to 7. -/
def laneOf (b : Byte) : Option (Fin 8) :=
  if h : b.toNat < 8 then some ⟨b.toNat, h⟩ else none

/-- Lanes 0 to 7 in ascending order. -/
def allLanes : List (Fin 8) :=
  [0, 1, 2, 3, 4, 5, 6, 7]

/-- The ramp's start value, max(1, floor(max step / 32)) (R84, R89). -/
def rampStart (maxStep : Nat) : Nat :=
  max 1 (maxStep / 32)

/-- The smallest integer not below a / b, for b above 0 (1.5.6, R158). -/
def ceilDiv (a b : Int) : Int :=
  (a + b - 1) / b

end Sys2Proof.Machine
end

