-- ==== Sys2Proof/Machine/Wire.lean ====
section
/-! DEFINITION. Bytes on the ring: the encoding of 11.1, slices of a frame, the CRC and the validity of
a frame (R169, R179). -/

namespace Sys2Proof.Machine

/-- `n` bytes of a number, most significant byte first (11.1). -/
def beBytes : Nat → Nat → List Byte
  | 0, _ => []
  | n + 1, v => BitVec.ofNat 8 (v / 256 ^ n) :: beBytes n v

/-- The number that bytes spell, most significant byte first (11.1). -/
def beNat (bs : List Byte) : Nat :=
  bs.foldl (fun acc b => acc * 256 + b.toNat) 0

/-- A signed number as `n` bytes of two's complement (11.1). -/
def intBytes (n : Nat) (v : Int) : List Byte :=
  beBytes n (BitVec.ofInt (8 * n) v).toNat

/-- `len` bytes from byte `off` on. -/
def slice (off len : Nat) (bs : List Byte) : List Byte :=
  (bs.drop off).take len

/-- The byte at `off`; a byte that the list does not reach reads as 0. -/
def byteAt (bs : List Byte) (off : Nat) : Byte :=
  bs.getD off 0

/-- The unsigned field of `len` bytes at `off`; bytes that the list does not reach read as 0. -/
def fieldAt (bs : List Byte) (off : Nat) : Nat → Nat
  | 0 => 0
  | len + 1 => fieldAt bs off len * 256 + (byteAt bs (off + len)).toNat

/-- The signed four-byte field at `off` (11.1, two's complement). -/
def signedFieldAt (bs : List Byte) (off : Nat) : Int :=
  (BitVec.ofNat 32 (fieldAt bs off 4)).toInt

/-- Bytes cut or filled with zeros to exactly `n` (R180, R181: bytes not named are written 0). -/
def padTo (n : Nat) (bs : List Byte) : List Byte :=
  bs.take n ++ List.replicate (n - bs.length) 0

/-- The bytes with those from `off` on replaced by `new`. -/
def patch (off : Nat) (new bs : List Byte) : List Byte :=
  bs.take off ++ new ++ bs.drop (off + new.length)

/-- One bit of the CRC division, generator H'04C11DB7 (R179). -/
def crcBit (r : Nat) : Nat :=
  let d := r * 2
  if r < 2147483648 then d else (d % 4294967296) ^^^ 0x04C11DB7

/-- `n` bits of the CRC division (R179). -/
def crcBits : Nat → Nat → Nat
  | 0, r => r
  | n + 1, r => crcBits n (crcBit r)

/-- One byte taken into the CRC, most significant bit first (R179). -/
def crcByte (r : Nat) (b : Byte) : Nat :=
  crcBits 8 (r ^^^ (b.toNat * 16777216))

/-- The CRC of a run of bytes: initial value H'FFFFFFFF, remainder complemented (R179). -/
def crc32 (bs : List Byte) : Nat :=
  4294967295 - bs.foldl crcByte 4294967295

/-- A frame less its four CRC bytes. -/
def frameBody (bs : List Byte) : List Byte :=
  bs.take (bs.length - 4)

/-- The CRC that a frame's contents call for equals its CRC field (R179). -/
def crcMatches (bs : List Byte) : Bool :=
  4 ≤ bs.length && crc32 (frameBody bs) == fieldAt bs (bs.length - 4) 4

/-- A frame with its CRC computed again over its contents (R169 step 4, R179). -/
def sealFrame (bs : List Byte) : List Byte :=
  frameBody bs ++ beBytes 4 (crc32 (frameBody bs))

/-- The slot count of a cycle frame (Table 11-1). -/
def slotCount (bs : List Byte) : Nat :=
  (byteAt bs 1).toNat

/-- The header names a cycle frame (Table 11-1). -/
def isCycle (bs : List Byte) : Bool :=
  byteAt bs 0 == 0xA5#8

/-- The header names a service frame (Table 11-2). -/
def isService (bs : List Byte) : Bool :=
  byteAt bs 0 == 0x5A#8

/-- A cycle frame's slot count lies from 1 to 32 and fits its length (R169, R179). -/
def cycleShape (bs : List Byte) : Bool :=
  isCycle bs && 1 ≤ slotCount bs && slotCount bs ≤ 32 && bs.length == 16 * slotCount bs + 6

/-- A service frame has 140 bytes (R179). -/
def serviceShape (bs : List Byte) : Bool :=
  isService bs && bs.length == 140

/-- A frame is valid when its CRC matches, its header names a kind and its shape fits (R169, R179). -/
def frameValid (bs : List Byte) : Bool :=
  crcMatches bs && (cycleShape bs || serviceShape bs)

end Sys2Proof.Machine
end

