-- ==== Sys2Proof/Machine/Operands.lean ====
section
/-! DEFINITION. The operand forms: the codes of 11.6, the table entries of Tables 11-4 and 11-6 read with their
range checks (R175 step 6, R181) and written back, and the parameters of a table request. -/

namespace Sys2Proof.Machine

/-! ## Code values (11.6) -/

/-- Table 11-14. -/
def JobState.code : JobState → Nat
  | .config => 0
  | .armed => 1
  | .run => 2
  | .ending => 3
  | .hold => 4

/-- Table 11-14. -/
def HoldCause.code : HoldCause → Nat
  | .none => 0
  | .halt => 1
  | .webBreak => 2
  | .linkLoss => 3
  | .reverse => 4
  | .jump => 5
  | .queueFull => 6

/-- Table 11-14. -/
def RegState.code : RegState → Nat
  | .free => 0
  | .acquire => 1
  | .locked => 2

/-- Table 11-14. -/
def StackerState.code : StackerState → Nat
  | .ready => 0
  | .fault => 1

/-- Table 11-14. -/
def FaultCause.code : FaultCause → Nat
  | .none => 0
  | .holdOverrun => 1
  | .timeout => 2
  | .node => 3

/-- Table 11-12. -/
def RespCode.code : RespCode → Nat
  | .ok => 0
  | .noTable => 1
  | .badIndex => 2
  | .badAlign => 3
  | .badValue => 4
  | .badLength => 5
  | .wrongState => 6
  | .badJob => 7
  | .badLane => 8

/-- Table 11-13. -/
def NoticeKind.code : NoticeKind → Nat
  | .jobState => 1
  | .regState => 2
  | .pitchAlarm => 3
  | .stackDone => 4
  | .stackerFault => 5
  | .lateCut => 6
  | .lateInfo => 7
  | .designSlip => 8
  | .zoneMerge => 9
  | .linkDown => 10

/-- A flag byte as written (11.1). -/
def flagByte (b : Bool) : Byte :=
  if b then 1#8 else 0#8

/-! ## Fields of a table entry -/

/-- A flag byte of a table entry: 0 or 1, any other value is out of range (R181). -/
def flagAt (b : List Byte) (off : Nat) : Option Bool :=
  if byteAt b off = 0#8 then some false else if byteAt b off = 1#8 then some true else none

/-- The value, if it lies from lo through hi. -/
def ranged (lo hi v : Nat) : Option Nat :=
  if lo ≤ v ∧ v ≤ hi then some v else none

/-- The signed value, if it lies from lo through hi. -/
def rangedInt (lo hi v : Int) : Option Int :=
  if lo ≤ v ∧ v ≤ hi then some v else none

/-! ## JOB (Table 11-4, ranges of Table 9-4) -/

/-- The missing-mark policy byte (Table 11-4). -/
def policyAt (b : List Byte) (off : Nat) : Option MarkPolicy :=
  (flagAt b off).map fun set => if set then .reject else .stack

/-- A JOB entry whose every field lies in its range (R157). -/
def JobRec.parse (b : List Byte) : Option JobRec := do
  let lanes ← ranged 1 8 (fieldAt b 0 1)
  let pitch ← ranged 2000 60000 (fieldAt b 1 2)
  let cycle ← ranged 1 16 (fieldAt b 3 1)
  let m2c ← ranged 0 59999 (fieldAt b 4 2)
  let window ← ranged 100 7500 (fieldAt b 6 2)
  let missingLimit ← ranged 0 15 (fieldAt b 8 1)
  let depth ← ranged 0 5 (fieldAt b 9 1)
  let lowThreshold ← ranged 0 67500 (fieldAt b 10 4)
  let highThreshold ← ranged 0 67500 (fieldAt b 14 4)
  let windowMode ← flagAt b 18
  let policy ← policyAt b 19
  let marginBefore ← ranged 0 60000 (fieldAt b 20 2)
  let marginAfter ← ranged 0 60000 (fieldAt b 22 2)
  pure { lanes, pitch, cycle, m2c, window, missingLimit, depth, lowThreshold, highThreshold,
         windowMode, policy, marginBefore, marginAfter }

/-- The JOB entry as a READ returns it (Table 11-4). -/
def JobRec.bytes (r : JobRec) : List Byte :=
  beBytes 1 r.lanes ++ beBytes 2 r.pitch ++ beBytes 1 r.cycle ++ beBytes 2 r.m2c ++ beBytes 2 r.window
    ++ beBytes 1 r.missingLimit ++ beBytes 1 r.depth ++ beBytes 4 r.lowThreshold
    ++ beBytes 4 r.highThreshold ++ [flagByte r.windowMode, flagByte (r.policy == .reject)]
    ++ beBytes 2 r.marginBefore ++ beBytes 2 r.marginAfter

/-! ## STATION (Table 11-6, ranges of Table 1-8) -/

/-- A STATION entry whose every field lies in its range (R4); bytes 45 to 47 are not read. -/
def StationRec.parse (b : List Byte) : Option StationRec := do
  let dC ← rangedInt (-400000) 400000 (signedFieldAt b 0)
  let dU ← rangedInt (-400000) 0 (signedFieldAt b 4)
  let dK ← ranged 1 200000 (fieldAt b 8 4)
  let dX ← ranged 1 400000 (fieldAt b 12 4)
  let dG ← ranged 1 400000 (fieldAt b 16 4)
  let dS ← ranged 1 400000 (fieldAt b 20 4)
  let knifeHorizon ← ranged 1 200000 (fieldAt b 24 4)
  let knifeLead ← ranged 0 199999 (fieldAt b 28 4)
  let gateHorizon ← ranged 1 400000 (fieldAt b 32 4)
  let gateLead ← ranged 0 399999 (fieldAt b 36 4)
  let reverseTolerance ← ranged 0 5000 (fieldAt b 40 2)
  let knifeNode ← ranged 1 62 (fieldAt b 42 1)
  let gateNode ← ranged 1 62 (fieldAt b 43 1)
  let ringTimeout ← ranged 1 255 (fieldAt b 44 1)
  pure { dC, dU, dK, dX, dG, dS, knifeHorizon, knifeLead, gateHorizon, gateLead, reverseTolerance,
         knifeNode, gateNode, ringTimeout }

/-- The STATION entry as a READ returns it (Table 11-6). -/
def StationRec.bytes (r : StationRec) : List Byte :=
  intBytes 4 r.dC ++ intBytes 4 r.dU ++ beBytes 4 r.dK ++ beBytes 4 r.dX ++ beBytes 4 r.dG
    ++ beBytes 4 r.dS ++ beBytes 4 r.knifeHorizon ++ beBytes 4 r.knifeLead ++ beBytes 4 r.gateHorizon
    ++ beBytes 4 r.gateLead ++ beBytes 2 r.reverseTolerance ++ beBytes 1 r.knifeNode
    ++ beBytes 1 r.gateNode ++ beBytes 1 r.ringTimeout ++ [0#8, 0#8, 0#8]

/-! ## LOOP (Table 11-6, ranges of Table 5-2) -/

/-- A LOOP entry whose every field lies in its range; the unlock tolerance is checked against the lock
tolerance of the same entry (R81). -/
def LoopRec.parse (b : List Byte) : Option LoopRec := do
  let kp ← ranged 0 1023 (fieldAt b 0 2)
  let ki ← ranged 0 1023 (fieldAt b 2 2)
  let limit ← ranged 0 5000 (fieldAt b 4 2)
  let maxStep ← ranged 1 500 (fieldAt b 6 2)
  let lockTolerance ← ranged 1 1000 (fieldAt b 8 2)
  let unlockTolerance ← ranged (lockTolerance + 1) 4095 (fieldAt b 10 2)
  pure { kp, ki, limit, maxStep, lockTolerance, unlockTolerance }

/-- The LOOP entry as a READ returns it (Table 11-6). -/
def LoopRec.bytes (r : LoopRec) : List Byte :=
  beBytes 2 r.kp ++ beBytes 2 r.ki ++ beBytes 2 r.limit ++ beBytes 2 r.maxStep
    ++ beBytes 2 r.lockTolerance ++ beBytes 2 r.unlockTolerance

/-! ## SENSOR, LANE, DISP, OVERRIDE, SCHED (Table 11-6) -/

/-- A SENSOR entry (R17): 0 LEADING, 1 TRAILING. -/
def Edge.parse (b : List Byte) : Option Edge :=
  (flagAt b 0).map fun set => if set then .trailing else .leading

/-- The byte of an edge (Tables 11-3 and 11-6). -/
def Edge.byte : Edge → Byte
  | .leading => 0#8
  | .trailing => 1#8

/-- A LANE entry whose every field lies in its range (R119, Table 7-2). -/
def LaneCfg.parse (b : List Byte) : Option LaneCfg := do
  let enabled ← flagAt b 0
  let node ← ranged 1 62 (fieldAt b 1 1)
  let target ← ranged 1 65535 (fieldAt b 2 2)
  let changeGap ← ranged 0 15 (fieldAt b 4 1)
  let holdLimit ← ranged 0 15 (fieldAt b 5 1)
  let timeout ← ranged 1 65535 (fieldAt b 6 2)
  let gatePre ← ranged 0 10000 (fieldAt b 8 2)
  let gatePost ← ranged 0 10000 (fieldAt b 10 2)
  pure { enabled, node, target, changeGap, holdLimit, timeout, gatePre, gatePost }

/-- The LANE entry as a READ returns it. -/
def LaneCfg.bytes (r : LaneCfg) : List Byte :=
  [flagByte r.enabled] ++ beBytes 1 r.node ++ beBytes 2 r.target ++ beBytes 1 r.changeGap
    ++ beBytes 1 r.holdLimit ++ beBytes 2 r.timeout ++ beBytes 2 r.gatePre ++ beBytes 2 r.gatePost

/-- The action code of a DISP entry (Table 11-6); 3 is out of range. -/
def DispAction.ofCode : Nat → Option DispAction
  | 0 => some .waste
  | 1 => some .stack
  | 2 => some .follow
  | _ => none

/-- The action code of a DISP entry (Table 11-6). -/
def DispAction.code : DispAction → Nat
  | .waste => 0
  | .stack => 1
  | .follow => 2

/-- A DISP entry (R102): bit 7 valid, bits 1 to 0 action, every other bit must be clear (R181). -/
def DispEntry.parse (b : List Byte) : Option DispEntry :=
  if byteAt b 0 &&& 0x7C#8 = 0#8 then
    (DispAction.ofCode ((byteAt b 0).toNat % 4)).map fun action =>
      { valid := (byteAt b 0).getLsbD 7, action }
  else none

/-- The DISP entry as a READ returns it. -/
def DispEntry.bytes (e : DispEntry) : List Byte :=
  [BitVec.ofNat 8 ((if e.valid then 128 else 0) + e.action.code)]

/-- An OVERRIDE entry (R103); byte 11 is not read. -/
def OverrideEntry.parse (b : List Byte) : Option OverrideEntry := do
  let valid ← flagAt b 0
  let accept ← flagAt b 1
  pure { valid, action := if accept then .forceAccept else .forceReject,
         first := BitVec.ofNat 32 (fieldAt b 2 4), last := BitVec.ofNat 32 (fieldAt b 6 4),
         lanes := byteAt b 10 }

/-- The OVERRIDE entry as a READ returns it. -/
def OverrideEntry.bytes (e : OverrideEntry) : List Byte :=
  [flagByte e.valid, flagByte (e.action == .forceAccept)] ++ beBytes 4 e.first.toNat
    ++ beBytes 4 e.last.toNat ++ [e.lanes, 0#8]

/-- A SCHED entry (R149): 0 STRICT, 1 RATIO, and a weight from 1 to 15. -/
def SchedEntry.parse (b : List Byte) : Option SchedEntry := do
  let ratio ← flagAt b 0
  let weight ← ranged 1 15 (fieldAt b 1 1)
  pure { mode := if ratio then .ratio else .strict, weight }

/-- The SCHED entry as a READ returns it. -/
def SchedEntry.bytes (e : SchedEntry) : List Byte :=
  [flagByte (e.mode == .ratio)] ++ beBytes 1 e.weight

/-! ## Table requests -/

/-- The tests 4 and 5 of R175 for a table of `entries` entries of `size` bytes. -/
def accessError (entries size index count : Nat) : Option RespCode :=
  if count = 0 ∨ 64 < count * size then some .badLength
  else if entries < index + count then some .badIndex
  else none

/-- The entries that a WRITE carries, packed in index order (R181). -/
def carried (size count : Nat) (data : List Byte) : List (List Byte) :=
  (List.range count).map fun i => slice (i * size) size data

/-- Every entry read by `parse`, or none if one is out of range (R175 step 6). -/
def parseAll {α : Type} (parse : List Byte → Option α) : List (List Byte) → Option (List α)
  | [] => some []
  | b :: bs =>
    match parse b, parseAll parse bs with
    | some x, some xs => some (x :: xs)
    | _, _ => none

/-- The table with the entries from `index` upward replaced (R175). -/
def storeFrom {α : Type} {n : Nat} (v : Vector α n) (index : Nat) : List α → Vector α n
  | [] => v
  | x :: xs => storeFrom (v.setIfInBounds index x) (index + 1) xs

/-- The checks of a WRITE of `entries` entries after its state and alignment (R175 steps 4 to 6): the
entries to store, or the code that refuses it. -/
def writeEntries {α : Type} (entries size : Nat) (parse : List Byte → Option α)
    (index : Half) (count : Byte) (data : List Byte) : Except RespCode (List α) :=
  match accessError entries size index.toNat count.toNat with
  | some code => .error code
  | none =>
    match parseAll parse (carried size count.toNat data) with
    | some es => .ok es
    | none => .error .badValue

end Sys2Proof.Machine
end

