-- ==== Sys2Proof/Machine/Ops.lean ====
section
/-! DEFINITION. The named operations that every block shares: changing one block, one lane or one record,
queueing a notice, charging a lane counter, changing the job state and answering a request. -/

namespace Sys2Proof.Machine

/-! ## One block, one lane -/

/-- Changes the link port's state only. -/
def State.onLink (f : LinkPort → LinkPort) (s : State) : State := { s with link := f s.link }

/-- Changes the tracking unit's state only. -/
def State.onTrack (f : Tracking → Tracking) (s : State) : State := { s with track := f s.track }

/-- Changes the registration unit's state only. -/
def State.onReg (f : Registration → Registration) (s : State) : State := { s with reg := f s.reg }

/-- Changes the cut controller's state only. -/
def State.onCut (f : CutControl → CutControl) (s : State) : State := { s with cut := f s.cut }

/-- Changes the disposition unit's state only. -/
def State.onDisp (f : Disposition → Disposition) (s : State) : State := { s with disp := f s.disp }

/-- Changes the stacking unit's state only. -/
def State.onStk (f : Stacking → Stacking) (s : State) : State := { s with stk := f s.stk }

/-- Changes the output scheduler's state only. -/
def State.onSched (f : Scheduler → Scheduler) (s : State) : State := { s with sched := f s.sched }

/-- Changes the job controller's state only. -/
def State.onJob (f : JobControl → JobControl) (s : State) : State := { s with job := f s.job }

/-- A table with entry k changed by f. -/
def modAt {α : Type} {n : Nat} (v : Vector α n) (k : Fin n) (f : α → α) : Vector α n :=
  v.set k.val (f v[k.val]) k.isLt

/-- Lane k of the stacking unit. -/
def State.lane (s : State) (k : Fin 8) : StackLane := s.stk.lanes[k.val]

/-- The LANE entry of lane k. -/
def State.cfg (s : State) (k : Fin 8) : LaneCfg := s.stk.cfg[k.val]

/-- Changes the stacking state of lane k only. -/
def State.onLane (k : Fin 8) (f : StackLane → StackLane) (s : State) : State :=
  s.onStk fun u => { u with lanes := modAt u.lanes k f }

/-- The part is addressed (R171). -/
def State.addressed (s : State) : Bool := addressInUse s.link.node

/-- The lanes in use, 0 to L − 1 (Table 1-3). -/
def State.lanesInUse (s : State) : List (Fin 8) :=
  allLanes.filter fun k => decide (k.val < s.job.job.lanes)

/-- The job state is RUN or ENDING (R163). -/
def State.running (s : State) : Bool :=
  s.job.state == .run || s.job.state == .ending

/-- Every lane's stack list is empty (R138). -/
def State.stacksEmpty (s : State) : Bool :=
  allLanes.all fun k => (s.lane k).list.isEmpty

/-! ## Notices (8.5) -/

/-- The NOTICE queue with the count of its item of this kind and lane raised, if it has one (R151). -/
def coalesce (kind : NoticeKind) (lane : Option (Fin 8)) : List Notice → Option (List Notice)
  | [] => none
  | n :: ns =>
    if n.kind = kind ∧ n.lane = lane then
      some ({ n with count := if n.count < 255 then n.count + 1 else n.count } :: ns)
    else (coalesce kind lane ns).map (n :: ·)

/-- R151: a notice coalesces, joins the queue, or is dropped and counted. -/
def Scheduler.notify (kind : NoticeKind) (lane : Option (Fin 8)) (value : Word) (q : Scheduler) :
    Scheduler :=
  match coalesce kind lane q.notices with
  | some ns => { q with notices := ns }
  | none =>
    if q.notices.length < Config.noticeCapacity then
      { q with notices := q.notices ++ [{ kind, lane, count := 1, value }] }
    else { q with noticesDropped := satInc q.noticesDropped }

/-- A block queues a notice (R151). -/
def State.notify (kind : NoticeKind) (lane : Option (Fin 8)) (value : Word) (s : State) : State :=
  s.onSched (·.notify kind lane value)

/-! ## Records -/

/-- Changes the record of this serial (no serial appears twice, R41). -/
def State.onRecord (serial : Word) (f : Record → Record) (s : State) : State :=
  s.onTrack fun u => { u with queue := u.queue.map fun r => if r.serial = serial then f r else r }

/-- The records older than the record of this serial. -/
def State.olderThan (s : State) (serial : Word) : List Record :=
  s.track.queue.takeWhile (·.serial != serial)

/-- The record of this serial and those younger than it, oldest first. -/
def State.fromSerial (s : State) (serial : Word) : List Record :=
  s.track.queue.dropWhile (·.serial != serial)

/-- Changes the entry of lane k in a record. -/
def Record.onLane (k : Fin 8) (f : LaneEntry → LaneEntry) (r : Record) : Record :=
  { r with lanes := modAt r.lanes k f }

/-- The cut web position, cut line + dK, of a record that has a cut line (R42). -/
def State.cutPos (s : State) (r : Record) : Option Word :=
  r.cutLine.map (shift · s.job.station.dK)

/-! ## Lane counters (R109) -/

/-- The eight counters of a lane. -/
inductive LaneCounter
  | stacked | rejected | wasted | gap | diverted | lost | lateInfo | lateGate
deriving DecidableEq, Repr

/-- One count more in one counter of a lane, saturating (R109). -/
def LaneCounters.bump (which : LaneCounter) (c : LaneCounters) : LaneCounters :=
  match which with
  | .stacked => { c with stacked := satInc c.stacked }
  | .rejected => { c with rejected := satInc c.rejected }
  | .wasted => { c with wasted := satInc c.wasted }
  | .gap => { c with gap := satInc c.gap }
  | .diverted => { c with diverted := satInc c.diverted }
  | .lost => { c with lost := satInc c.lost }
  | .lateInfo => { c with lateInfo := satInc c.lateInfo }
  | .lateGate => { c with lateGate := satInc c.lateGate }

/-- Charges one counter of lane k (R109). -/
def State.charge (k : Fin 8) (which : LaneCounter) (s : State) : State :=
  s.onDisp fun d => { d with counters := modAt d.counters k (·.bump which) }

/-! ## Job state (R155) -/

/-- The value of a JOB_STATE notice: byte 8 the state, byte 7 the hold cause (Table 11-13). -/
def jobNoticeValue (state : JobState) (cause : HoldCause) : Word :=
  BitVec.ofNat 32 (cause.code * 256 + state.code)

/-- Sets the job state and the hold cause and queues the JOB_STATE notice of the change (R155). -/
def State.enterJobState (state : JobState) (cause : HoldCause) (s : State) : State :=
  (s.onJob fun j => { j with state, cause }).notify .jobState none (jobNoticeValue state cause)

/-! ## Registration state (R20) -/

/-- Sets the registration state, with a REG_STATE notice if the value changes (R20). -/
def State.setRegState (state : RegState) (s : State) : State :=
  if s.reg.state = state then s
  else (s.onReg fun r => { r with state }).notify .regState none (BitVec.ofNat 32 state.code)

/-! ## Answering a request (R174) -/

/-- The frame in passage with a response written into it and its CRC computed again; a frame in passage
that is no service frame stays as it is (R174, R179, Table 11-2). -/
def writeResponse (r : Response) (frame : List Byte) : List Byte :=
  if serviceShape frame then
    sealFrame (patch 7 [BitVec.ofNat 8 r.code.code] (patch 72 r.data frame))
  else frame

/-- Writes response code and response data, the bytes not filled being 0 (R174, R181). -/
def State.answer (code : RespCode) (data : List Byte) (s : State) : State :=
  let r : Response := { code, data := padTo 64 data }
  s.onLink fun l => { l with response := some r, frame := writeResponse r l.frame }

/-- Answers with a code and no response data. -/
def State.reply (code : RespCode) (s : State) : State :=
  s.answer code []

/-- What a part does with an arrival, an offer or a request: nothing while it is unaddressed (R171). -/
def State.ifAddressed (f : State → State) (s : State) : State :=
  if s.addressed then f s else s

end Sys2Proof.Machine
end

