-- ==== Sys2Proof/Machine/Stacking.lean ====
section
/-! DEFINITION. The stacking unit (section 7): stack records, assignment, arrival, the change exchange, faults
and closings, and the meanings of STKREADY, STKFAULT, CHANGE_TIMER_EXPIRY, LANE_ENABLE and CLOSE_STACK. -/

namespace Sys2Proof.Machine

/-! ## The change (7.6) and the end of a job (7.8) -/

/-- The record's change is due (R130), for a record that is its lane's oldest. -/
def StackRec.changeDue (r : StackRec) : Bool :=
  r.state == .filled && r.arrived == r.assigned && !r.requested

/-- R130: if the change of lane k is due, its STACK item is queued and the record marked requested. -/
def State.requestChange (k : Fin 8) (s : State) : State :=
  match (s.lane k).list with
  | [] => s
  | r :: rest =>
    if r.changeDue then
      (s.onLane k fun l => { l with list := { r with requested := true } :: rest }).onSched
        fun q => { q with stack := q.stack ++ [{ lane := k, number := r.number }] }
    else s

/-- R138, R162: the end-of-job report, made once the repeat queue and every stack list are empty in
ENDING, returns the job to ARMED. -/
def State.completeEnding (s : State) : State :=
  if s.job.state = .ending ∧ s.track.queue = [] ∧ s.stacksEmpty = true then
    s.enterJobState .armed .none
  else s

/-- A record closed before its target: FILLED with its SHORT flag set; other records stay (R124, R137,
R138). -/
def StackRec.closeShort (r : StackRec) : StackRec :=
  if r.state = .assigning then { r with state := .filled, short := true } else r

/-- R138 for one lane: the ASSIGNING record closes, the gap counter is 0, the change is tested. -/
def State.closeLaneAtEnd (k : Fin 8) (s : State) : State :=
  (s.onLane k fun l => { l with list := l.list.map StackRec.closeShort, gap := 0 }).requestChange k

/-- R138: the closing of every stack when the repeat queue has become empty in ENDING, and the report. The lanes
are taken from lane 0 upward, which orders their STACK items (the model's choice, log entry 26). -/
def State.endOfJobClosing (s : State) : State :=
  (allLanes.foldl (fun s k => s.closeLaneAtEnd k) s).completeEnding

/-! ## Faults (7.7) -/

/-- R135: lane k faults. -/
def State.faultLane (k : Fin 8) (cause : FaultCause) (s : State) : State :=
  (((s.onLane k fun l => { l with state := .fault, cause, list := [], timer := none, gap := 0 }).onSched
      fun q => { q with stack := q.stack.filter (·.lane != k) }).notify .stackerFault (some k)
      (BitVec.ofNat 32 cause.code)).completeEnding

/-- The lane's change timer has counted to the timeout it was started with (R132). -/
def StackLane.timerDue (l : StackLane) : Bool :=
  match l.timer with
  | some t => decide (t.timeout ≤ t.count)
  | none => false

/-- R132: a change timer that has reached its timeout expires and faults the lane. -/
def State.expireIfDue (k : Fin 8) (s : State) : State :=
  if (s.lane k).timerDue then s.faultLane k .timeout else s

/-- R132: one more valid cycle frame for every running change timer. -/
def State.countFrame (s : State) : State :=
  s.onStk fun u => { u with lanes := u.lanes.map fun l =>
    { l with timer := l.timer.map fun t => { t with count := t.count + 1 } } }

/-! ## Assignment at commit (7.4) -/

/-- The stacking unit's answer at step 11 (R108). -/
inductive AssignAnswer
  | stack (number : Nat) | gap | listFull
deriving DecidableEq, Repr

/-- One label more assigned; at its target the record is FILLED (R126). -/
def StackRec.take (r : StackRec) : StackRec :=
  { r with assigned := r.assigned + 1,
           state := if r.assigned + 1 = r.target then .filled else r.state }

/-- The stack number after `n`, from 65,535 on to 1 (R125). -/
def nextStackNumber (n : Nat) : Nat :=
  if n = 65535 then 1 else n + 1

/-- The gap counter after a label has joined record r: the change gap if that filled it (R123, R126). -/
def StackLane.gapAfter (cfg : LaneCfg) (r : StackRec) (l : StackLane) : Nat :=
  if r.state = .filled then cfg.changeGap else l.gap

/-- R126: the label joins the ASSIGNING record r. -/
def StackLane.join (cfg : LaneCfg) (r : StackRec) (l : StackLane) : AssignAnswer × StackLane :=
  (.stack r.number,
    { l with list := l.list.map fun x => if x.state = .assigning then x.take else x,
             gap := l.gapAfter cfg r.take })

/-- A stack record as R125 opens it. -/
def StackRec.opened (cfg : LaneCfg) (number design : Nat) : StackRec where
  number := number
  design := design
  assigned := 0
  arrived := 0
  held := 0
  target := cfg.target
  suspect := 0
  short := false
  requested := false
  state := .assigning

/-- R125: a new record is opened for the label, which joins it, or the list is full. -/
def StackLane.openFor (cfg : LaneCfg) (design : Nat) (l : StackLane) : AssignAnswer × StackLane :=
  if Config.stackListCapacity ≤ l.list.length then (.listFull, l)
  else
    let r := (StackRec.opened cfg l.next design).take
    (.stack r.number,
      { l with list := l.list ++ [r], next := nextStackNumber l.next, gap := l.gapAfter cfg r })

/-- Step 11 of the outcome decision (R124 to R126) for a label of this design. -/
def StackLane.assign (cfg : LaneCfg) (design : Nat) (l : StackLane) : AssignAnswer × StackLane :=
  match l.list.find? (·.state == .assigning) with
  | none => l.openFor cfg design
  | some r =>
    if r.design = design then l.join cfg r
    else if cfg.changeGap = 0 then
      StackLane.openFor cfg design { l with list := l.list.map StackRec.closeShort, gap := 0 }
    else
      (.gap, { l with list := l.list.map StackRec.closeShort, gap := cfg.changeGap - 1 })

/-! ## Arrivals (7.5) -/

/-- The lane's oldest record is CHANGING (R127). -/
def StackLane.changing (l : StackLane) : Bool :=
  match l.list with
  | r :: _ => r.state == .changing
  | [] => false

/-- The held total of the lane (R128). -/
def StackLane.heldTotal (l : StackLane) : Nat :=
  (l.list.map (·.held)).sum

/-- One label landed on the record of this number, held if the lane is changing (R127, R128). -/
def StackLane.land (number : Nat) (l : StackLane) : StackLane :=
  { l with list := l.list.map fun r =>
      if r.number = number then
        { r with arrived := r.arrived + 1, held := if l.changing then r.held + 1 else r.held }
      else r }

/-- R127 for one lane: whether the label of this stack reference was counted, and the state after. -/
def State.landLabel (k : Fin 8) (number : Nat) (s : State) : Bool × State :=
  if (s.lane k).state = .fault then (false, s)
  else if (s.lane k).list.all (·.number != number) then (false, s)
  else
    let landed := s.onLane k (·.land number)
    if (s.lane k).changing = true ∧ (s.cfg k).holdLimit < (landed.lane k).heldTotal then
      (false, landed.faultLane k .holdOverrun)
    else (true, landed.requestChange k)

/-! ## Suspect charges (R129) -/

/-- R129: a charge against the record of this number, unless it is CHANGING. -/
def State.suspectNamed (k : Fin 8) (number : Nat) (s : State) : State :=
  s.onLane k fun l => { l with list := l.list.map fun r =>
    if r.number = number ∧ r.state ≠ .changing then { r with suspect := r.suspect + 1 } else r }

/-- The list with one suspect charge on its oldest record that is not CHANGING, the receiving stack. -/
def chargeReceiving : List StackRec → List StackRec
  | [] => []
  | r :: rest =>
    if r.state = .changing then r :: chargeReceiving rest
    else { r with suspect := r.suspect + 1 } :: rest

/-- R129: a charge against the lane's receiving stack, if it has one. -/
def State.suspectReceiving (k : Fin 8) (s : State) : State :=
  s.onLane k fun l => { l with list := chargeReceiving l.list }

/-! ## HOLD and CLEAR (R139, R140) -/

/-- What the settlement leaves of a stack record (R139). -/
def StackRec.settle (r : StackRec) : Option StackRec :=
  if r.state = .changing then some r
  else if r.arrived = 0 then none
  else if r.arrived < r.assigned ∨ r.state = .assigning then
    some { r with state := .filled, short := true, assigned := r.arrived }
  else some r

/-- R139 for one lane. -/
def State.settleLane (k : Fin 8) (s : State) : State :=
  (s.onLane k fun l => { l with list := l.list.filterMap StackRec.settle, gap := 0 }).requestChange k

/-- R139: the settlement of every lane at entry to HOLD, from lane 0 upward, which orders their STACK items (the
model's choice, log entry 26). -/
def State.settleStacks (s : State) : State :=
  allLanes.foldl (fun s k => s.settleLane k) s

/-- R140: every stack list, change timer, STACK item and gap counter goes at CLEAR. -/
def State.clearStacks (s : State) : State :=
  (s.onStk fun u => { u with lanes := u.lanes.map fun l =>
    { l with list := [], timer := none, gap := 0 } }).onSched fun q => { q with stack := [] }

/-! ## Meanings -/

/-- R133: the change of lane k ends. -/
def State.endChange (k : Fin 8) (number : Nat) (s : State) : State :=
  (((s.onLane k fun l =>
      { l with list := l.list.tail.map fun r => { r with held := 0 }, timer := none }).notify
        .stackDone (some k) (BitVec.ofNat 32 number)).requestChange k).completeEnding

/-- One stray STKREADY more (R133, R141). -/
def State.countStrayReady (s : State) : State :=
  s.onStk fun u => { u with strayReady := satInc u.strayReady }

/-- The oldest record of the lane is CHANGING with this stack number (R133). -/
def StackLane.awaits (number : Nat) (l : StackLane) : Bool :=
  match l.list with
  | r :: _ => r.state == .changing && r.number == number
  | [] => false

/-- STKREADY (R133). A change timer that has already reached its timeout has expired first (R132). -/
def execStkready (lane : Byte) (number : Half) (s : State) : Host.Outcome State Fault Refusal :=
  .next <| s.ifAddressed fun s =>
    match laneOf lane with
    | none => s.countStrayReady
    | some k =>
      let s := s.expireIfDue k
      if (s.lane k).awaits number.toNat then s.endChange k number.toNat else s.countStrayReady

/-- STKFAULT (R134). -/
def execStkfault (lane : Byte) (s : State) : Host.Outcome State Fault Refusal :=
  .next <| s.ifAddressed fun s =>
    match laneOf lane with
    | none => s
    | some k => if (s.lane k).state = .ready then s.faultLane k .node else s

/-- CHANGE_TIMER_EXPIRY (R132). A timer that is stopped or has not reached its timeout does not expire. -/
def execChangeTimerExpiry (k : Fin 8) (s : State) : Host.Outcome State Fault Refusal :=
  .next (s.expireIfDue k)

/-- LANE_ENABLE (R136). -/
def execLaneEnable (lane : Byte) (s : State) : Host.Outcome State Fault Refusal :=
  .next <| s.ifAddressed fun s =>
    match laneOf lane with
    | none => s.reply .badLane
    | some k =>
      (if (s.lane k).state = .fault then
        s.onLane k fun l => { l with state := .ready, cause := .none }
      else s).reply .ok

/-- CLOSE_STACK (R137). -/
def execCloseStack (lane : Byte) (s : State) : Host.Outcome State Fault Refusal :=
  .next <| s.ifAddressed fun s =>
    match laneOf lane with
    | none => s.reply .badLane
    | some k =>
      if (s.lane k).list.any (·.state == .assigning) then
        ((s.onLane k fun l => { l with list := l.list.map StackRec.closeShort,
                                       gap := (s.cfg k).changeGap }).requestChange k).reply .ok
      else s.reply .wrongState

end Sys2Proof.Machine
end

