-- ==== Sys2Proof/Machine/Disposition.lean ====
section
/-! DEFINITION. The disposition unit (section 6): overrides, the outcome decision, gate commands, late
information, the commit, the arrival and the accounting at a hold. -/

namespace Sys2Proof.Machine

/-! ## Late information (6.7) -/

/-- What may reach a label after its commit (R115). -/
inductive LateKind
  | defectZone | spliceZone | lateNext | lateGate
deriving DecidableEq, Repr

/-- R115: whether late zone or LATE_NEXT information marks the stack of a STACK label; a DEFECT zone does not
where the override result is FORCE_ACCEPT. -/
def LateKind.marks (kind : LateKind) (e : LaneEntry) : Bool :=
  e.outcome == some .stack && !(kind == .defectZone && e.override == some .forceAccept)

/-- R115: the late-information rule for the label of lane k in record r. -/
def State.lateInformation (r : Record) (k : Fin 8) (kind : LateKind) (s : State) : State :=
  let e := r.lanes[k.val]
  let counted := (s.charge k .lateInfo).notify .lateInfo (some k) r.serial
  if kind = .lateGate then counted.suspectReceiving k
  else if kind.marks e then
    match e.stackRef with
    | some number => counted.suspectNamed k number
    | none => counted
  else counted

/-! ## The outcome decision (6.4) -/

/-- The causes of an outcome (Tables 6-1 and 6-2); no state holds them (R43, R109). -/
inductive Cause
  | tail | override | registration | lateCut | splice | missingMark | defect | noDisp | table
  | disabled | fault | listFull
deriving DecidableEq, Repr

/-- R104: the OVERRIDE entry matches this serial and lane. -/
def OverrideEntry.covers (e : OverrideEntry) (serial : Word) (k : Fin 8) : Bool :=
  e.valid && serialInRange serial e.first e.last && inLaneSet e.lanes k

/-- R104: the action of the entry of lowest index that matches. -/
def Disposition.overrideFor (d : Disposition) (serial : Word) (k : Fin 8) : Option OverrideAction :=
  (d.overrides.toList.find? (·.covers serial k)).map (·.action)

/-- R106: steps 1 to 7 of the decision, for a record, its entry of the lane and the matched override. -/
def recordSteps (policy : MarkPolicy) (r : Record) (e : LaneEntry) (matched : Option OverrideAction) :
    Option (LabelOutcome × Cause) :=
  if r.tail then some (.waste, .tail)
  else if matched = some .forceReject then some (.reject, .override)
  else if r.cls ≠ .locked then some (.waste, .registration)
  else if r.cut = .late ∨ r.lateNext = true then some (.reject, .lateCut)
  else if e.splice then some (.reject, .splice)
  else if r.origin = .predicted ∧ policy = .reject then some (.reject, .missingMark)
  else if e.defect = true ∧ matched ≠ some .forceAccept then some (.reject, .defect)
  else none

/-- The action of the valid DISP entry at this index, if there is one (R107). -/
def Disposition.actionAt (d : Disposition) (index : Nat) : Option DispAction :=
  match d.disp[index]? with
  | some e => if e.valid then some e.action else none
  | none => none

/-- R107: the action of the DISP entry of a design and lane, FOLLOW followed once to lane 0. -/
def Disposition.resolve (d : Disposition) (design : Nat) (k : Fin 8) : Option DispAction :=
  match d.actionAt (design * 8 + k.val) with
  | some .follow =>
    match d.actionAt (design * 8) with
    | some .follow => none
    | other => other
  | other => other

/-- R107: step 8 of the decision; none goes on to step 9. -/
def Disposition.tableStep (d : Disposition) (design : Nat) (k : Fin 8) :
    Option (LabelOutcome × Cause) :=
  match d.resolve design k with
  | some .stack => none
  | some .waste => some (.waste, .table)
  | _ => some (.waste, .noDisp)

/-- R108: step 9 of the decision; none goes on to step 10. -/
def State.laneStep (s : State) (k : Fin 8) : Option (LabelOutcome × Cause) :=
  if (s.cfg k).enabled = false then some (.divert, .disabled)
  else if (s.lane k).state = .fault then some (.divert, .fault)
  else none

/-- Steps 1 to 9 of the decision for lane k of record r (R106 to R108). -/
def State.firstNineSteps (s : State) (r : Record) (k : Fin 8) : Option (LabelOutcome × Cause) :=
  (recordSteps s.job.job.policy r r.lanes[k.val] (s.disp.overrideFor r.serial k)).orElse fun _ =>
    (s.disp.tableStep r.design k).orElse fun _ => s.laneStep k

/-- What the decision gives a label: outcome, cause where it has one, and the stack it joins. -/
structure Decision where
  outcome : LabelOutcome
  cause : Option Cause
  ref : Option Nat
deriving DecidableEq, Repr

/-- R105 action 1: the decision for lane k of record r, with what steps 10 and 11 change (R108). -/
def State.decideLane (s : State) (r : Record) (k : Fin 8) : Decision × State :=
  match s.firstNineSteps r k with
  | some (outcome, cause) => ({ outcome, cause := some cause, ref := none }, s)
  | none =>
    if 0 < (s.lane k).gap then
      ({ outcome := .gap, cause := none, ref := none }, s.onLane k fun l => { l with gap := l.gap - 1 })
    else
      match (s.lane k).assign (s.cfg k) r.design with
      | (.stack number, l) =>
        ({ outcome := .stack, cause := none, ref := some number }, (s.onLane k fun _ => l).requestChange k)
      | (.gap, l) =>
        ({ outcome := .gap, cause := none, ref := none }, (s.onLane k fun _ => l).requestChange k)
      | (.listFull, l) =>
        ({ outcome := .divert, cause := some .listFull, ref := none },
          (s.onLane k fun _ => l).requestChange k)

/-- The counter that an outcome charges at commit; STACK charges none (R109). -/
def LabelOutcome.counter : LabelOutcome → Option LaneCounter
  | .stack => none
  | .reject => some .rejected
  | .waste => some .wasted
  | .divert => some .diverted
  | .gap => some .gap

/-! ## Gate commands (6.6) -/

/-- R112: the lane's most recent GATE item still stands in the queue and ends at the serial before. -/
def coalescable (q : List GateItem) (k : Fin 8) (serial : Word) : Bool :=
  match q.reverse.find? (·.lane == k) with
  | some g => g.last == serial - 1#32
  | none => false

/-- R113: the most recent item of lane k takes a new close position and last serial in place. -/
def extendItem (k : Fin 8) (closePos serial : Word) : List GateItem → List GateItem
  | [] => []
  | g :: gs =>
    if g.lane = k ∧ gs.all (·.lane != k) = true then { g with closePos, last := serial } :: gs
    else g :: extendItem k closePos serial gs

/-- R113: the open position of the gate span of a record with this cut line in lane k. -/
def State.gateOpen (s : State) (cutLine : Word) (k : Fin 8) : Word :=
  shift cutLine ((s.job.station.dG : Int) - (s.cfg k).gatePre)

/-- R113: the close position of the gate span of a label with this end in lane k. -/
def State.gateClose (s : State) (labelEnd : Word) (k : Fin 8) : Word :=
  shift labelEnd ((s.job.station.dG : Int) + (s.cfg k).gatePost)

/-- R113: the lane's coalescable item is extended, or a new item joins the GATE queue. -/
def State.gateLabel (serial cutLine labelEnd : Word) (k : Fin 8) (s : State) : State :=
  s.onSched fun q =>
    if coalescable q.gate k serial then
      { q with gate := extendItem k (s.gateClose labelEnd k) serial q.gate }
    else
      { q with gate := q.gate ++ [{ lane := k, openPos := s.gateOpen cutLine k,
                                    closePos := s.gateClose labelEnd k, first := serial,
                                    last := serial }] }

/-- R112: the gate room test for the commit of a record of this serial. -/
def State.gateRoom (s : State) (serial : Word) : Bool :=
  decide ((s.lanesInUse.filter fun k => !coalescable s.sched.gate k serial).length
    ≤ Config.gateCapacity - s.sched.gate.length)

/-! ## The commit (6.4) -/

/-- R105: one lane of a commit: decided, recorded, charged, gated. -/
def State.commitLane (r : Record) (cutLine labelEnd : Word) (k : Fin 8) (s : State) : State :=
  let matched := s.disp.overrideFor r.serial k
  let (d, s) := s.decideLane r k
  let s := s.onRecord r.serial fun x => x.onLane k fun e =>
    { e with override := matched, outcome := some d.outcome, stackRef := d.ref }
  match d.outcome.counter with
  | none => s
  | some which => (s.charge k which).gateLabel r.serial cutLine labelEnd k

/-- R105: the commit of record r, held back without any change where the gate room test fails. -/
def State.commit (r : Record) (cutLine labelEnd : Word) (s : State) : State :=
  if s.gateRoom r.serial then
    (s.lanesInUse.foldl (fun s k => s.commitLane r cutLine labelEnd k) s).onRecord r.serial
      fun x => { x with commit := .committed }
  else s

/-! ## Arrival and discard (6.6.1, 6.8) -/

/-- R114: the ranges at the head whose last serial is behind the arriving serial are removed. -/
def pruneRanges (serial : Word) : List SerialRange → List SerialRange
  | [] => []
  | x :: xs => if behind x.last serial then pruneRanges serial xs else x :: xs

/-- R114: the first range holds the serial. -/
def headHolds (serial : Word) : List SerialRange → Bool
  | [] => false
  | x :: _ => serialInRange serial x.first x.last

/-- R114: the first range, which holds the serial, is removed if that is its last serial. -/
def closeRange (serial : Word) : List SerialRange → List SerialRange
  | [] => []
  | x :: xs => if serial = x.last then xs else x :: xs

/-- Changes the late-gate list of lane k. -/
def State.onLateGates (k : Fin 8) (f : List SerialRange → List SerialRange) (s : State) : State :=
  s.onDisp fun d => { d with lateGates := modAt d.lateGates k f }

/-- R114: the late-gate charge of one lane at the arrival of record r. -/
def State.lateGateCharge (r : Record) (k : Fin 8) (s : State) : State :=
  let s := s.onLateGates k (pruneRanges r.serial)
  if headHolds r.serial s.disp.lateGates[k.val] then
    (s.lateInformation r k .lateGate).onLateGates k (closeRange r.serial)
  else s

/-- R117, R127: one lane at the arrival: a STACK label is counted STACKED or charged LOST. -/
def State.arriveLane (r : Record) (k : Fin 8) (s : State) : State :=
  let e := r.lanes[k.val]
  if e.outcome = some .stack then
    match s.landLabel k (e.stackRef.getD 0) with
    | (true, s) => s.charge k .stacked
    | (false, s) => s.charge k .lost
  else s

/-- R58: the arrival of the oldest record: late gates, then stacks, then retirement; the queue that becomes
empty in ENDING is reported (R61). -/
def State.arrive (r : Record) (s : State) : State :=
  let s := s.lanesInUse.foldl (fun s k => s.lateGateCharge r k) s
  let s := s.lanesInUse.foldl (fun s k => s.arriveLane r k) s
  let s := s.onTrack fun u => { u with queue := u.queue.tail }
  if s.job.state = .ending ∧ s.track.queue = [] then s.endOfJobClosing else s

/-- R118: lane k of a discarded record is charged LOST. -/
def Record.lostAtHold (r : Record) (k : Fin 8) : Bool :=
  r.commit == .uncommitted || r.lanes[k.val].outcome == some .stack

/-- R118: the accounting of one discarded record. -/
def State.holdAccount (r : Record) (s : State) : State :=
  s.lanesInUse.foldl (fun s k => if r.lostAtHold k then s.charge k .lost else s) s

end Sys2Proof.Machine
end

