-- ==== Sys2Proof/Machine/Zones.lean ====
section
/-! DEFINITION. Defect and splice zones (section 4): application, listing, merging, the sweep at a closing, and
the meanings of INSPECT and SPLICE. -/

namespace Sys2Proof.Machine

/-! ## Applying a zone (4.4) -/

/-- R69: the zone reaches the record: the record has a nominal extent [s, e), x_lo is behind e and x_hi is at
or beyond s. -/
def Zone.reaches (z : Zone) (r : Record) : Bool :=
  match r.nominalEnd with
  | some e => behind z.lo e && atOrBeyond z.hi r.nominalStart
  | none => false

/-- The late information that a zone brings (R115). -/
def ZoneKind.late : ZoneKind → LateKind
  | .defect => .defectZone
  | .splice => .spliceZone

/-- R69: the flag of the zone's kind set in a lane entry. -/
def ZoneKind.flag (kind : ZoneKind) (e : LaneEntry) : LaneEntry :=
  match kind with
  | .defect => { e with defect := true }
  | .splice => { e with splice := true }

/-- R69: the flags that a zone sets in an uncommitted record. -/
def Zone.mark (z : Zone) (r : Record) : Record :=
  { r with lanes := Vector.ofFn fun k =>
      if inLaneSet z.lanes k then z.kind.flag r.lanes[k.val] else r.lanes[k.val] }

/-- R69: the zone applied to a record that it reaches. A committed record's lanes are handed to R115 from lane 0
upward (the lane order is the model's, log entry 26). -/
def State.applyZone (z : Zone) (r : Record) (s : State) : State :=
  match r.commit with
  | .uncommitted => s.onRecord r.serial z.mark
  | .committed =>
    (s.lanesInUse.filter fun k => inLaneSet z.lanes k).foldl
      (fun s k => s.lateInformation r k z.kind.late) s

/-! ## Listing a zone (4.4.1) -/

/-- R72: the zone inserted before the first whose x_lo is beyond its own. -/
def insertZone (z : Zone) : List Zone → List Zone
  | [] => [z]
  | y :: ys => if beyond y.lo z.lo then z :: y :: ys else y :: insertZone z ys

/-- R73 step 1: the distance between the new zone z and a listed zone y. Where each is beyond the other the rule
gives both gaps, and a free value of Config takes one of them; where neither is, it gives none, and the distance is
the free value of Config (log entry 7). -/
def zoneDistance (z y : Zone) : Nat :=
  let above := (y.lo - z.hi).toNat
  let below := (z.lo - y.hi).toNat
  if atOrBeyond y.hi z.lo ∧ atOrBeyond z.hi y.lo then 0
  else
    match beyond y.lo z.hi, beyond z.lo y.hi with
    | true, false => above
    | false, true => below
    | true, true => if Config.mergeMeasuresUp z.lo z.hi y.lo y.hi then above else below
    | false, false => Config.mergeDistance z.lo z.hi y.lo y.hi

/-- R73 steps 2 to 4: y is chosen over best, which stands earlier in the list. -/
def choosesOver (z best y : Zone) : Bool :=
  if zoneDistance z y < zoneDistance z best then true
  else zoneDistance z y == zoneDistance z best && beyond best.lo y.lo

/-- R73 steps 2 to 4: the place in the list of the candidate at least distance; `at` is the place of the first
zone of the list given. -/
def nearest (z : Zone) (candidate : Zone → Bool) (place : Nat) (best : Option (Nat × Zone)) :
    List Zone → Option (Nat × Zone)
  | [] => best
  | y :: ys =>
    let best' := match best with
      | none => if candidate y then some (place, y) else none
      | some (i, b) => if candidate y && choosesOver z b y then some (place, y) else some (i, b)
    nearest z candidate (place + 1) best' ys

/-- R73: the place and the zone chosen for the merge, of the new zone's kind if the list holds one. -/
def mergeChoice (z : Zone) (zones : List Zone) : Option (Nat × Zone) :=
  if zones.any (·.kind == z.kind) then nearest z (·.kind == z.kind) 0 none zones
  else nearest z (fun _ => true) 0 none zones

/-- R74: the earlier of the new and the listed bound (log entry 8 where neither is the earlier). -/
def earlierBound (new listed : Word) : Word :=
  if atOrBeyond listed new then new
  else if atOrBeyond new listed then listed
  else if Config.mergeLoTakesNew new listed then new else listed

/-- R74: the later of the new and the listed bound (log entry 8 where neither is the later). -/
def laterBound (new listed : Word) : Word :=
  if atOrBeyond new listed then new
  else if atOrBeyond listed new then listed
  else if Config.mergeHiTakesNew new listed then new else listed

/-- R74: the merged zone of the new zone z and the chosen zone y. -/
def mergedZone (z y : Zone) : Zone :=
  let kind := if z.kind = y.kind then z.kind else .splice
  { kind, lo := earlierBound z.lo y.lo, hi := laterBound z.hi y.hi,
    lanes := if kind = .splice then 0xFF#8 else z.lanes ||| y.lanes }

/-- R72 to R74: the zone takes its place in the list, by insertion or by a merge. -/
def State.listZone (z : Zone) (s : State) : State :=
  if s.track.zones.length < Config.zoneCapacity then
    s.onTrack fun u => { u with zones := insertZone z u.zones }
  else
    match mergeChoice z s.track.zones with
    | none => s
    | some (place, y) =>
      let m := mergedZone z y
      (s.onTrack fun u => { u with zones := insertZone m (u.zones.eraseIdx place),
                                   zoneMerge := satInc u.zoneMerge }).notify .zoneMerge none m.lo

/-! ## Intake (4.3, 4.4) -/

/-- R71: the frontier: the open record's nominal start, else the youngest record's nominal end. -/
def State.frontier (s : State) : Option Word :=
  match s.track.queue.getLast? with
  | none => none
  | some r =>
    match r.nominalEnd with
    | none => some r.nominalStart
    | some e => some e

/-- R71 step 1: the zone is to be listed. -/
def State.reachesFrontier (s : State) (z : Zone) : Bool :=
  match s.frontier with
  | none => true
  | some f => atOrBeyond z.hi f

/-- R70, R71: a zone formed from an arrival is applied, then listed, done with, or dropped as STALE. -/
def State.takeZone (z : Zone) (s : State) : State :=
  let reached := s.track.queue.filter z.reaches
  let s := reached.foldl (fun s r => s.applyZone z r) s
  if s.reachesFrontier z then s.listZone z
  else if reached.isEmpty then s.onTrack fun u => { u with stale := satInc u.stale }
  else s

/-- R66: inspection and splice reports are taken in every job state but CONFIG. -/
def State.takesReports (s : State) : Bool :=
  s.job.state != .config

/-- R67 steps 1 to 3: the zone of an inspection report. -/
def State.inspectZone (s : State) (valid lanes : Byte) (captured : Word) (length : Half) : Zone :=
  let tagged := shift captured (-s.job.station.dC)
  let untagged := shift s.track.pos (-s.job.station.dC)
  { kind := .defect,
    lo := if flagSet valid then tagged else untagged,
    hi := if flagSet valid then shift tagged length.toNat else untagged,
    lanes := lanes &&& lanesBelow s.job.job.lanes }

/-- R68: the zone of a splice report. -/
def State.spliceZone (s : State) (captured : Word) : Zone :=
  let x := shift captured (-s.job.station.dU)
  { kind := .splice, lo := shift x (-(s.job.job.marginBefore : Int)),
    hi := shift x s.job.job.marginAfter, lanes := 0xFF#8 }

/-! ## Closing a record (4.5) -/

/-- R75 steps 1 and 2 for one zone, at the closing of the record of this serial with extent [start, stop). -/
def State.closingZone (serial start stop : Word) (z : Zone) (s : State) : State :=
  let s := match (s.fromSerial serial).head? with
    | some r => if z.reaches r then s.applyZone z r else s
    | none => s
  if behind z.hi stop && behind z.hi start then
    s.onTrack fun u => { u with stale := satInc u.stale }
  else s

/-- R47, R75: the record closes at `stop`; the listed zones are applied to it, and those that end behind
`stop` leave the list. -/
def State.closeRecord (r : Record) (stop : Word) (s : State) : State :=
  let s := s.onRecord r.serial fun x => { x with nominalEnd := some stop }
  let s := s.track.zones.foldl (fun s z => s.closingZone r.serial r.nominalStart stop z) s
  s.onTrack fun u => { u with zones := u.zones.filter fun z => !behind z.hi stop }

/-! ## Meanings -/

/-- INSPECT (R66, R67). -/
def execInspect (valid lanes : Byte) (captured : Word) (length : Half) (s : State) :
    Host.Outcome State Fault Refusal :=
  .next <| s.ifAddressed fun s =>
    let z := s.inspectZone valid lanes captured length
    if s.takesReports = true ∧ z.lanes ≠ 0#8 then s.takeZone z else s

/-- SPLICE (R66, R68). -/
def execSplice (captured : Word) (s : State) : Host.Outcome State Fault Refusal :=
  .next <| s.ifAddressed fun s =>
    if s.takesReports then s.takeZone (s.spliceZone captured) else s

end Sys2Proof.Machine
end

