-- ==== Sys2Proof/Machine/Hold.lean ====
section
/-! DEFINITION. Entry to HOLD (R166), one operation that every hold cause shares, and the meanings of the
events and requests whose whole effect it is: WEBBREAK and HALT. -/

namespace Sys2Proof.Machine

/-- R62, R118, R65: every record is accounted, oldest first; the repeat queue, the zone list and the late-gate
lists are emptied. -/
def State.discardQueue (s : State) : State :=
  ((s.track.queue.foldl (fun s r => s.holdAccount r) s).onTrack
    fun u => { u with queue := [], zones := [] }).onDisp
      fun d => { d with lateGates := Vector.replicate 8 [] }

/-- R153: the KNIFE and GATE queues are emptied. -/
def State.flushCommands (s : State) : State :=
  s.onSched fun q => { q with knife := [], gate := [] }

/-- R163, R166: in RUN and ENDING the job enters HOLD with this cause; in the other states nothing happens. -/
def State.enterHold (cause : HoldCause) (s : State) : State :=
  if s.running then
    (s.enterJobState .hold cause).discardQueue.flushCommands.settleStacks
  else s

/-- WEBBREAK (R164). -/
def execWebbreak (s : State) : Host.Outcome State Fault Refusal :=
  .next <| s.ifAddressed fun s => s.enterHold .webBreak

/-- HALT (R165). -/
def execHalt (s : State) : Host.Outcome State Fault Refusal :=
  .next <| s.ifAddressed fun s =>
    if s.running then (s.enterHold .halt).reply .ok else s.reply .wrongState

end Sys2Proof.Machine
end

