-- ==== Sys2Proof/Machine/Cut.lean ====
section
/-! DEFINITION. The cut controller (section 5): the ramp, the build of a knife command, late cuts, the
correction loop with its lock and unlock requests, the clamp of a LOOP write, and the meaning of CUTMEAS. -/

namespace Sys2Proof.Machine

/-- The ramp restarts (R89). -/
def State.restartRamp (s : State) : State :=
  s.onCut fun c => { c with ramp := rampStart s.job.loop.maxStep }

/-- The step limit of a build (R88). -/
def State.stepLimit (s : State) : Nat :=
  if s.reg.state = .locked then s.job.loop.maxStep else s.cut.ramp

/-- The applied correction after one step towards the target (R87 step 2). -/
def State.steppedCorrection (s : State) : Int :=
  s.cut.applied + clamp (s.cut.target - s.cut.applied) (-(s.stepLimit : Int)) s.stepLimit

/-- The ramp value after a build (R89). -/
def State.grownRamp (s : State) : Nat :=
  if s.reg.state ≠ .locked ∧ s.cut.ramp < s.job.loop.maxStep then s.cut.ramp + 1 else s.cut.ramp

/-- The cut line anchor + m2c + correction (R87 step 3, R91). -/
def State.cutLineAt (s : State) (r : Record) (correction : Int) : Word :=
  shift r.anchor ((s.job.job.m2c : Int) + correction)

/-- R87: the knife command of record r is built. -/
def State.buildKnife (r : Record) (s : State) : State :=
  let line := s.cutLineAt r s.steppedCorrection
  ((s.onCut fun c => { c with applied := s.steppedCorrection, ramp := s.grownRamp }).onRecord r.serial
      fun x => { x with cut := .queued, cutLine := some line }).onSched
    fun q => { q with knife := q.knife ++ [{ serial := r.serial, cutPos := shift line s.job.station.dK }] }

/-! ## Late cuts (R53, R91, R92) -/

/-- R53 step 2: the LATE_NEXT flag of the record before, and the late-information rule if it is committed, in
its lanes in use from lane 0 upward (the lane order is the model's, log entry 26). -/
def State.markLateNext (r : Record) (s : State) : State :=
  let s := s.onRecord r.serial fun x => { x with lateNext := true }
  match r.commit with
  | .uncommitted => s
  | .committed => s.lanesInUse.foldl (fun s k => s.lateInformation r k .lateNext) s

/-- R53: the effects of a cut that becomes LATE, the record of this serial being LATE already. -/
def State.lateCutEffects (serial : Word) (s : State) : State :=
  let s := match (s.olderThan serial).getLast? with
    | some before => s.markLateNext before
    | none => s
  (s.onCut fun c => { c with lateCut := satInc c.lateCut }).notify .lateCut none serial

/-- R51, R91: a PENDING record becomes late, with a cut line and no command. -/
def State.latePending (r : Record) (s : State) : State :=
  let line := s.cutLineAt r s.cut.applied
  (s.onRecord r.serial fun x => { x with cut := .late, check := .noCheck, cutLine := some line })
    |>.lateCutEffects r.serial

/-- R52: a QUEUED record becomes late; its KNIFE item is removed wherever it stands. -/
def State.lateQueued (serial : Word) (s : State) : State :=
  ((s.onSched fun q => { q with knife := q.knife.filter (·.serial != serial) }).onRecord serial
    fun x => { x with cut := .late, check := .noCheck }).lateCutEffects serial

/-! ## The correction loop (5.6) -/

/-- The error clamped (R95 step 1). -/
def clampedError (error : Half) : Int :=
  clamp error.toInt (-4095) 4095

/-- The integral after a used measurement (R95 step 2). -/
def nextIntegral (loop : LoopRec) (integral e : Int) : Int :=
  clamp (integral - loop.ki * e) (-(loop.limit * 256 : Int)) (loop.limit * 256)

/-- The target after a used measurement whose integral is this (R95 steps 3 and 4). -/
def nextTarget (loop : LoopRec) (integral e : Int) : Int :=
  clamp (round256 (-(loop.kp * e) + integral)) (-(loop.limit : Int)) loop.limit

/-- R21: the registration unit takes a lock request. -/
def State.lockRequest (s : State) : State :=
  if s.reg.state = .acquire then s.setRegState .locked else s

/-- R22: the registration unit takes an unlock request. -/
def State.unlockRequest (s : State) : State :=
  if s.reg.state = .locked then s.setRegState .acquire else s

/-- R97, R98: the lock or unlock test of a used measurement of clamped error e. -/
def State.lockTest (e : Int) (s : State) : State :=
  match s.reg.state with
  | .free => s
  | .acquire => if e.natAbs ≤ s.job.loop.lockTolerance then s.lockRequest else s
  | .locked =>
    if s.job.loop.unlockTolerance < e.natAbs then s.restartRamp.unlockRequest else s

/-- Kp and Ki are both 0 (R96). -/
def LoopRec.withoutGain (loop : LoopRec) : Bool :=
  loop.kp == 0 && loop.ki == 0

/-- The loop state after a used measurement of clamped error e: R95 steps 2 to 4, and R96 where Kp and Ki are
both 0 (log entry 27). -/
def CutControl.correct (loop : LoopRec) (e : Int) (c : CutControl) : CutControl :=
  if loop.withoutGain then c
  else
    let integral := nextIntegral loop c.integral e
    { c with integral, target := nextTarget loop integral e }

/-- R95: a used measurement of record r. -/
def State.useMeasurement (r : Record) (error : Half) (s : State) : State :=
  let e := clampedError error
  ((s.onRecord r.serial fun x => { x with check := .checked }).onCut (·.correct s.job.loop e)).lockTest e

/-- R54: the record is eligible for a measurement. -/
def Record.eligible (r : Record) : Bool :=
  r.cut == .sent && r.check == .unchecked

/-- R83: the loop state clamped to an accepted LOOP record. -/
def CutControl.clampTo (loop : LoopRec) (c : CutControl) : CutControl :=
  { c with target := clamp c.target (-(loop.limit : Int)) loop.limit,
           applied := clamp c.applied (-(loop.limit : Int)) loop.limit,
           integral := clamp c.integral (-(loop.limit * 256 : Int)) (loop.limit * 256),
           ramp := min c.ramp loop.maxStep }

/-- CUTMEAS (R93 to R98). -/
def execCutmeas (valid : Byte) (error : Half) (s : State) : Host.Outcome State Fault Refusal :=
  .next <| s.ifAddressed fun s =>
    match s.track.queue.find? Record.eligible with
    | none => s.onCut fun c => { c with strayMeas := satInc c.strayMeas }
    | some r =>
      if flagSet valid = true ∧ r.origin ≠ .free then s.useMeasurement r error
      else s.onRecord r.serial fun x => { x with check := .ignored }

end Sys2Proof.Machine
end

