-- ==== Sys2Proof/Machine/Registration.lean ====
section
/-! DEFINITION. The registration unit (section 2): the pitch estimate and its alarms, the creation of records
(R30, with the append of R46 to R48), marks, predictions, the resets of START, RESUME and CLEAR, and the
meanings of MARKEV and ACK_ALARMS. -/

namespace Sys2Proof.Machine

/-! ## Pitch estimate and alarms (2.8, 2.9) -/

/-- The pitch estimate in force: the repeat length while the ring holds fewer than 2^n samples (R32). -/
def State.pitchEstimate (s : State) : Int :=
  if s.reg.samples.length < 2 ^ s.job.job.depth then s.job.job.pitch else s.reg.estimate

/-- The average of the 2^n most recent samples (R32), the samples newest first. -/
def pitchAverage (n : Nat) (samples : List Int) : Int :=
  match n with
  | 0 => samples.headD 0
  | m + 1 => ((samples.take (2 ^ (m + 1))).sum + 2 ^ m) / 2 ^ (m + 1)

/-- The average clamped to repeat ± W (R32). -/
def clampedEstimate (job : JobRec) (samples : List Int) : Int :=
  clamp (pitchAverage job.depth samples) ((job.pitch : Int) - job.window) ((job.pitch : Int) + job.window)

/-- R34, R35: PITCH_LOW is set, and its notice queued if it was clear. Where it was set already nothing changes, and
PITCH_HIGH stays set in window mode too, if an earlier job left both (log entry 28). -/
def State.alarmLow (s : State) : State :=
  if s.reg.pitchLow then s
  else
    (s.onReg fun r => { r with pitchLow := true,
                               pitchHigh := if s.job.job.windowMode then false else r.pitchHigh }).notify
      .pitchAlarm none (BitVec.ofInt 32 s.reg.estimate)

/-- R34, R35: PITCH_HIGH is set, and its notice queued if it was clear. Where it was set already nothing changes, and
PITCH_LOW stays set in window mode too, if an earlier job left both (log entry 28). -/
def State.alarmHigh (s : State) : State :=
  if s.reg.pitchHigh then s
  else
    (s.onReg fun r => { r with pitchHigh := true,
                               pitchLow := if s.job.job.windowMode then false else r.pitchLow }).notify
      .pitchAlarm none (BitVec.ofInt 32 s.reg.estimate)

/-- R34: the estimate just recomputed is compared with the thresholds. -/
def State.compareAlarms (s : State) : State :=
  let s' := if s.reg.estimate < s.job.job.lowThreshold then s.alarmLow else s
  if (s.job.job.highThreshold : Int) < s.reg.estimate then s'.alarmHigh else s'

/-- R31, R32: a pitch sample is placed; with 2^n samples in the ring the estimate is recomputed. -/
def State.placeSample (sample : Int) (s : State) : State :=
  let s := s.onReg fun r => { r with samples := (sample :: r.samples).take Config.ringCapacity }
  if 2 ^ s.job.job.depth ≤ s.reg.samples.length then
    (s.onReg fun r => { r with estimate := clampedEstimate s.job.job r.samples }).compareAlarms
  else s

/-! ## Creating a record (2.7, 3.4) -/

/-- The design that counting gives the next record (R38). -/
def State.countedDesign (s : State) : Nat :=
  (s.reg.design + 1) % s.job.job.cycle

/-- The design of the next record (R38). -/
def State.nextDesign (s : State) : Nat :=
  if s.reg.firstRecord then 0 else if s.reg.cyclePending then 0 else s.countedDesign

/-- The next record is a design slip (R38 step 2). -/
def State.slips (s : State) : Bool :=
  !s.reg.firstRecord && s.reg.cyclePending && s.countedDesign != 0

/-- R38 step 2: a slip is counted and its notice queued. -/
def State.countSlip (s : State) : State :=
  if s.slips then
    (s.onReg fun r => { r with designSlip := satInc r.designSlip }).notify .designSlip none
      (BitVec.ofNat 32 s.countedDesign)
  else s

/-- A lane entry at append (R43). -/
def LaneEntry.fresh : LaneEntry where
  defect := false
  splice := false
  override := none
  outcome := none
  stackRef := none

/-- A record at append (Table 3-2). -/
def Record.fresh (serial : Word) (design : Nat) (anchor : Word) (origin : Origin) (cls : RegState)
    (m2c : Nat) : Record where
  serial := serial
  design := design
  anchor := anchor
  origin := origin
  cls := cls
  nominalStart := shift anchor m2c
  nominalEnd := none
  cut := .pending
  cutLine := none
  check := .unchecked
  tail := false
  lateNext := false
  commit := .uncommitted
  lanes := Vector.replicate 8 .fresh

/-- R46, R47: the record joins the queue with the next serial, and the youngest before it closes. -/
def State.append (design : Nat) (anchor : Word) (origin : Origin) (cls : RegState) (s : State) : State :=
  let r := Record.fresh s.track.nextSerial design anchor origin cls s.job.job.m2c
  let t := s.onTrack fun u => { u with queue := u.queue ++ [r], nextSerial := u.nextSerial + 1#32 }
  match s.track.queue.getLast? with
  | none => t
  | some young => t.closeRecord young r.nominalStart

/-- R30: a record is created, the queue having room for it. -/
def State.createRecord (anchor : Word) (origin : Origin) (cls : RegState) (s : State) : State :=
  let design := s.nextDesign
  let s := s.countSlip.append design anchor origin cls
  let s := if origin = .marked ∧ s.reg.lastOrigin = some .marked then
      s.placeSample (diff anchor s.reg.lastAnchor)
    else s
  s.onReg fun r => { r with lastAnchor := anchor, lastOrigin := some origin, design,
                            cyclePending := false, firstRecord := false }

/-- R48: what calls for a record is done if the queue has room; otherwise the job enters HOLD with cause
QUEUE_FULL and nothing of it is done. -/
def State.withRoom (f : State → State) (s : State) : State :=
  if Config.queueCapacity ≤ s.track.queue.length then s.enterHold .queueFull else f s

/-! ## Marks (2.5, 2.6) -/

/-- The missing-mark counter set to 0 (R40). -/
def State.clearMissing (s : State) : State :=
  s.onReg fun r => { r with missing := 0 }

/-- One SEEK_SKIP more (R39). -/
def State.countSeekSkip (s : State) : State :=
  s.onReg fun r => { r with seekSkip := satInc r.seekSkip }

/-- One STRAY more (R39). -/
def State.countStray (s : State) : State :=
  s.onReg fun r => { r with stray := satInc r.stray }

/-- The seek interval holds this position (Table 2-2, R26). -/
def State.inSeekInterval (s : State) (x : Word) : Bool :=
  fromThrough x (shift s.reg.lastAnchor (s.job.job.pitch / 2 : Nat))
    (shift s.reg.lastAnchor ((s.job.job.pitch : Int) + s.job.job.window))

/-- The expected position (Table 2-2). -/
def State.expected (s : State) : Word :=
  shift s.reg.lastAnchor s.pitchEstimate

/-- The acceptance window holds this position (Table 2-2, R28). -/
def State.inWindow (s : State) (x : Word) : Bool :=
  fromThrough x (shift s.reg.lastAnchor (s.pitchEstimate - s.job.job.window))
    (shift s.reg.lastAnchor (s.pitchEstimate + s.job.job.window))

/-- R19: the mark is reported more than one repeat beyond P. -/
def State.farAhead (s : State) (captured : Word) : Bool :=
  beyond captured (shift s.track.pos s.job.job.pitch)

/-- R19, R26, R28: a registration mark in RUN. -/
def State.takeMark (captured : Word) (s : State) : State :=
  match s.reg.state with
  | .free =>
    if !s.farAhead captured && s.inSeekInterval captured then
      s.withRoom fun s => (s.createRecord captured .marked .free |>.setRegState .acquire).clearMissing
    else s.countSeekSkip
  | cls =>
    if !s.farAhead captured && s.inWindow captured then
      s.withRoom fun s => (s.createRecord captured .marked cls).clearMissing
    else s.countStray

/-- R37: a cycle mark in RUN. -/
def State.takeCycleMark (s : State) : State :=
  if 1 < s.job.job.cycle then s.onReg fun r => { r with cyclePending := true } else s

/-! ## Predictions (R27, R29) -/

/-- The pitch sample ring cleared (R33). -/
def State.clearRing (s : State) : State :=
  s.onReg fun r => { r with samples := [] }

/-- R27: the free prediction point has been passed. -/
def State.freeDue (s : State) : Bool :=
  beyond s.track.pos (shift s.reg.lastAnchor ((s.job.job.pitch : Int) + s.job.job.window))

/-- R29: the prediction point has been passed. -/
def State.predictionDue (s : State) : Bool :=
  beyond s.track.pos (shift s.reg.lastAnchor (s.pitchEstimate + s.job.job.window))

/-- R27: one free prediction. -/
def State.predictFree (s : State) : State :=
  s.withRoom fun s => s.createRecord (shift s.reg.lastAnchor s.job.job.pitch) .free .free

/-- R29: one prediction in ACQUIRE or LOCKED, of this class. -/
def State.predictMark (cls : RegState) (s : State) : State :=
  s.withRoom fun s =>
    if s.reg.missing + 1 ≤ s.job.job.missingLimit then
      (s.onReg fun r => { r with missing := r.missing + 1 }).createRecord s.expected .predicted cls
    else
      ((s.setRegState .free).clearMissing.clearRing).createRecord s.expected .free .free

/-- The one prediction that P makes due in RUN, if any (R27, R29). -/
def State.predictOne (s : State) : Option State :=
  if s.job.state = .run then
    match s.reg.state with
    | .free => if s.freeDue then some s.predictFree else none
    | cls => if s.predictionDue then some (s.predictMark cls) else none
  else none

/-- The predictions that P makes due, in order (R11, R27, R29), at most `fuel` of them. -/
def State.predictUpTo : Nat → State → State
  | 0, s => s
  | fuel + 1, s =>
    match s.predictOne with
    | some t => predictUpTo fuel t
    | none => s

/-- Every prediction that P makes due. Each one adds a record, and the 257th at the latest finds the queue
full and leaves RUN (R48), so the bound is never what ends them (log entry 18). -/
def State.predictAll (s : State) : State :=
  s.predictUpTo (Config.queueCapacity + 1)

/-! ## Job transitions (R24, R25) -/

/-- The part of START and RESUME that both share (R24, R25): FREE, the virtual anchor at P, the counter, the
ring and the cycle-pending flag cleared. -/
def State.restartRegistration (s : State) : State :=
  (s.setRegState .free).onReg fun r =>
    { r with lastAnchor := s.track.pos, lastOrigin := none, missing := 0, samples := [],
             cyclePending := false }

/-- The registration unit at CLEAR (R25). -/
def State.clearRegistration (s : State) : State :=
  (s.setRegState .free).onReg fun r =>
    { r with lastAnchor := 0#32, lastOrigin := none, missing := 0, samples := [],
             cyclePending := false, firstRecord := false }

/-! ## Meanings -/

/-- The edge byte is the edge selected for the channel (R18 step 2, R180). -/
def State.edgeSelected (s : State) (channel edge : Byte) : Bool :=
  match s.reg.edges[channel.toNat]? with
  | some selected => edge == selected.byte
  | none => false

/-- MARKEV (R18): channel, edge and job state, then a registration mark or a cycle mark. -/
def execMarkev (channel edge : Byte) (captured : Word) (s : State) : Host.Outcome State Fault Refusal :=
  .next <| s.ifAddressed fun s =>
    if s.edgeSelected channel edge = true ∧ s.job.state = .run then
      if channel = 0#8 then s.takeMark captured else s.takeCycleMark
    else s

/-- ACK_ALARMS (R36). -/
def execAckAlarms (s : State) : Host.Outcome State Fault Refusal :=
  .next <| s.ifAddressed fun s =>
    (s.onReg fun r => { r with pitchLow := false, pitchHigh := false }).reply .ok

end Sys2Proof.Machine
end

