-- ==== Sys2Proof/Machine/Tracking.lean ====
section
/-! DEFINITION. The tracking unit's stages (3.5): the stage tests, the knife sweep and the disposition sweep of
an advance (R49), and the meaning of WEBPOS. -/

namespace Sys2Proof.Machine

/-! ## Stage tests (Table 3-3) -/

/-- R50: the cut-due point of the record has been reached. -/
def State.cutDue (s : State) (r : Record) : Bool :=
  atOrBeyond s.track.pos
    (shift r.anchor ((s.job.job.m2c : Int) + s.job.station.dK - s.job.station.knifeHorizon))

/-- R51: the lateness point of a PENDING record has been passed. -/
def State.pendingLate (s : State) (r : Record) : Bool :=
  beyond s.track.pos (shift r.anchor
    ((s.job.job.m2c : Int) + s.cut.applied + s.job.station.dK - s.job.station.knifeLead))

/-- R52, R144: P is beyond this cut web position less the knife lead. -/
def State.cutPosLate (s : State) (cutPos : Word) : Bool :=
  beyond s.track.pos (shift cutPos (-(s.job.station.knifeLead : Int)))

/-- R55: the check expiry point of a cut with this web position has been reached. -/
def State.checkExpired (s : State) (cutPos : Word) : Bool :=
  atOrBeyond s.track.pos (shift cutPos
    ((s.job.station.dX : Int) - s.job.station.dK + (s.job.job.pitch / 2 : Nat)))

/-- R56: the commit point of a record with this cut line has been reached. -/
def State.commitPoint (s : State) (cutLine : Word) : Bool :=
  atOrBeyond s.track.pos (shift cutLine ((s.job.station.dG : Int) - s.job.station.gateHorizon))

/-- R42, R56: the label end of record r, whose next younger record is `next`. -/
def State.labelEnd (s : State) (r : Record) (next : Option Record) : Option Word :=
  if r.tail then r.cutLine.map (shift · s.job.job.pitch)
  else
    match next with
    | none => none
    | some n => if n.cut = .pending then none else n.cutLine

/-! ## Knife sweep (R49) -/

/-- R50, R51: the cut-due transition of a PENDING record. -/
def State.cutTransition (r : Record) (s : State) : State :=
  if r.cut ≠ .pending then s
  else if s.pendingLate r then s.latePending r
  else if s.cutDue r = true ∧ s.sched.knife.length < Config.knifeCapacity then s.buildKnife r
  else s

/-- R52: the lateness transition of a QUEUED record. -/
def State.lateTransition (r : Record) (s : State) : State :=
  match r.cut, s.cutPos r with
  | .queued, some cutPos => if s.cutPosLate cutPos then s.lateQueued r.serial else s
  | _, _ => s

/-- R55: the check expiry of a SENT and UNCHECKED record. -/
def State.expiryTransition (r : Record) (s : State) : State :=
  match r.eligible, s.cutPos r with
  | true, some cutPos =>
    if s.checkExpired cutPos then s.onRecord r.serial fun x => { x with check := .noCheck } else s
  | _, _ => s

/-- Takes a transition of the record of this serial as it then stands. -/
def State.withRecord (serial : Word) (f : Record → State → State) (s : State) : State :=
  match (s.fromSerial serial).head? with
  | some r => f r s
  | none => s

/-- R49: the knife sweep's three transitions for one record, in their order. -/
def State.knifeStep (s : State) (serial : Word) : State :=
  ((s.withRecord serial State.cutTransition).withRecord serial State.lateTransition).withRecord serial
    State.expiryTransition

/-! ## Disposition sweep (R49) -/

/-- R56: the commit of the record of this serial, if it is due. -/
def State.commitStep (serial : Word) (s : State) : State :=
  match s.fromSerial serial with
  | [] => s
  | r :: younger =>
    match r.commit, r.cutLine, s.labelEnd r younger.head? with
    | .uncommitted, some cutLine, some stop =>
      if (s.olderThan serial).all (·.commit == .committed) = true ∧ s.commitPoint cutLine = true then
        s.commit r cutLine stop
      else s
    | _, _, _ => s

/-- R58: the arrival of the record of this serial, if it is the oldest and due. -/
def State.arrivalStep (serial : Word) (s : State) : State :=
  match s.track.queue with
  | [] => s
  | r :: younger =>
    match r.commit, s.labelEnd r younger.head? with
    | .committed, some stop =>
      if r.serial = serial ∧ atOrBeyond s.track.pos (shift stop s.job.station.dS) = true then s.arrive r
      else s
    | _, _ => s

/-- R49: the disposition sweep's two transitions for one record. -/
def State.dispositionStep (s : State) (serial : Word) : State :=
  (s.commitStep serial).arrivalStep serial

/-- R49: the two sweeps over the queue as it stands, each from the oldest record to the youngest. -/
def State.sweeps (s : State) : State :=
  let serials := s.track.queue.map (·.serial)
  serials.foldl State.dispositionStep (serials.foldl State.knifeStep s)

/-! ## WEBPOS -/

/-- P takes this value (R10). -/
def State.setPos (p : Word) (s : State) : State :=
  s.onTrack fun u => { u with pos := p }

/-- R11: an advance sets P, makes the predictions, then takes the stage transitions; a hold on the way ends
it (R48). -/
def State.advance (p : Word) (s : State) : State :=
  let s := (s.setPos p).predictAll
  if s.running then s.sweeps else s

/-- WEBPOS (R10 to R14). -/
def execWebpos (reported : Word) (s : State) : Host.Outcome State Fault Refusal :=
  .next <| s.ifAddressed fun s =>
    if s.running then
      let d := diff reported s.track.pos
      if d = 0 then s
      else if 65535 < d then (s.setPos reported).enterHold .jump
      else if 0 < d then s.advance reported
      else if -(s.job.station.reverseTolerance : Int) ≤ d then
        s.onTrack fun u => { u with posHeld := satInc u.posHeld }
      else (s.setPos reported).enterHold .reverse
    else s.setPos reported

end Sys2Proof.Machine
end

