-- ==== Sys2Proof/Machine/Output.lean ====
section
/-! DEFINITION. The output scheduler (section 8): the ladder that fills an own EMPTY slot, the slots it writes,
the credits, and the meaning of OWN_EMPTY_SLOT_OFFER. -/

namespace Sys2Proof.Machine

/-! ## Slots (R180, Table 11-3) -/

/-- The KNIFE slot of an item (R144). -/
def knifeSlot (node : Nat) (x : KnifeItem) : List Byte :=
  padTo 16 ([0x20#8] ++ beBytes 1 node ++ beBytes 4 x.serial.toNat ++ beBytes 4 x.cutPos.toNat)

/-- The GATE slot of an item: kind H'30 + lane, the low 16 bits of the last serial (R145, R180). -/
def gateSlot (node : Nat) (x : GateItem) : List Byte :=
  padTo 16 ([BitVec.ofNat 8 (0x30 + x.lane.val)] ++ beBytes 1 node ++ beBytes 4 x.openPos.toNat
    ++ beBytes 4 x.closePos.toNat ++ beBytes 4 x.first.toNat ++ beBytes 2 x.last.toNat)

/-- The STACKCHG slot of a lane's stack record (R131): destination 1 is SUSPECT. -/
def stackSlot (node : Nat) (k : Fin 8) (r : StackRec) : List Byte :=
  padTo 16 ([0x40#8] ++ beBytes 1 node ++ beBytes 1 k.val ++ beBytes 2 r.number ++ beBytes 2 r.arrived
    ++ [flagByte (decide (0 < r.suspect)), flagByte r.short])

/-- The lane byte of a notice: H'FF for the whole part (R150). -/
def noticeLaneByte (lane : Option (Fin 8)) : Byte :=
  match lane with
  | some k => BitVec.ofNat 8 k.val
  | none => 0xFF#8

/-- The NOTICE slot of an item, to node 0 (R147). -/
def noticeSlot (x : Notice) : List Byte :=
  padTo 16 ([0x50#8, 0#8] ++ beBytes 1 x.kind.code ++ [noticeLaneByte x.lane] ++ beBytes 1 x.count
    ++ beBytes 4 x.value.toNat)

/-- The frame in passage with slot `place` written and its CRC computed again; a frame in passage that has no
such slot stays as it is (R169, R179, Table 11-1). -/
def writeSlot (place : Nat) (slot frame : List Byte) : List Byte :=
  if cycleShape frame = true ∧ place < slotCount frame then
    sealFrame (patch (2 + 16 * place) slot frame)
  else frame

/-- The slot written by the link port (R180). -/
def State.fillSlot (place : Nat) (slot : List Byte) (s : State) : State :=
  s.onLink fun l => { l with slotOut := some slot, frame := writeSlot place slot l.frame }

/-- The slot passes on EMPTY (R143). -/
def State.passEmpty (s : State) : State :=
  s.onLink fun l => { l with slotOut := none }

/-! ## Credits (R148) -/

/-- The credit that a reload gives a queue with this SCHED entry. -/
def SchedEntry.reload (e : SchedEntry) : Nat :=
  if e.mode = .ratio then e.weight else 0

/-- The ratio credits reloaded from the SCHED table (R148). -/
def Scheduler.reload (q : Scheduler) : Scheduler :=
  { q with gateCredit := q.table[0].reload, stackCredit := q.table[1].reload,
           noticeCredit := q.table[2].reload }

/-! ## The ladder (R143) -/

/-- The queues that the SCHED table governs, in the fixed order of R143. -/
inductive Source
  | gate | stack | notice
deriving DecidableEq, Repr

/-- GATE, STACK, NOTICE (R143 step 2). -/
def sources : List Source := [.gate, .stack, .notice]

/-- The queue holds an item. -/
def Scheduler.waiting (q : Scheduler) : Source → Bool
  | .gate => !q.gate.isEmpty
  | .stack => !q.stack.isEmpty
  | .notice => !q.notices.isEmpty

/-- The queue's SCHED entry (R149). -/
def Scheduler.entry (q : Scheduler) : Source → SchedEntry
  | .gate => q.table[0]
  | .stack => q.table[1]
  | .notice => q.table[2]

/-- The queue's ratio credit (R148). -/
def Scheduler.credit (q : Scheduler) : Source → Nat
  | .gate => q.gateCredit
  | .stack => q.stackCredit
  | .notice => q.noticeCredit

/-- One credit of the queue spent (R143 step 3). -/
def Scheduler.spend (q : Scheduler) : Source → Scheduler
  | .gate => { q with gateCredit := q.gateCredit - 1 }
  | .stack => { q with stackCredit := q.stackCredit - 1 }
  | .notice => { q with noticeCredit := q.noticeCredit - 1 }

/-- R143 step 2: the first waiting STRICT queue. -/
def Scheduler.strictChoice (q : Scheduler) : Option Source :=
  sources.find? fun x => q.waiting x && (q.entry x).mode == .strict

/-- R143 step 3: the first waiting RATIO queue with credit. -/
def Scheduler.ratioChoice (q : Scheduler) : Option Source :=
  sources.find? fun x => q.waiting x && (q.entry x).mode == .ratio && 0 < q.credit x

/-- R143 step 4: a RATIO queue waits. -/
def Scheduler.ratioWaits (q : Scheduler) : Bool :=
  sources.any fun x => q.waiting x && (q.entry x).mode == .ratio

/-- R143 steps 2 to 4: the queue chosen, and the scheduler with the credits as the choice leaves them. -/
def Scheduler.choose (q : Scheduler) : Option Source × Scheduler :=
  match q.strictChoice with
  | some x => (some x, q)
  | none =>
    match q.ratioChoice with
    | some x => (some x, q.spend x)
    | none =>
      if q.ratioWaits then
        match q.reload.ratioChoice with
        | some x => (some x, q.reload.spend x)
        | none => (none, q.reload)
      else (none, q)

/-! ## Sending (R144 to R147) -/

/-- R144: the record of this dropped item becomes LATE, with the effects of R53. -/
def State.dropKnife (x : KnifeItem) (s : State) : State :=
  ((s.onSched fun q => { q with knife := q.knife.tail }).onRecord x.serial
    fun r => { r with cut := .late, check := .noCheck }).lateCutEffects x.serial

/-- R144: the late heads among the items given, which are the KNIFE queue, are dropped in turn. -/
def State.dropLateHeads : List KnifeItem → State → State
  | [], s => s
  | x :: xs, s => if s.cutPosLate x.cutPos then dropLateHeads xs (s.dropKnife x) else s

/-- R144: the head of the KNIFE queue is sent and its record becomes SENT. -/
def State.sendKnife (place : Nat) (x : KnifeItem) (s : State) : State :=
  ((s.onSched fun q => { q with knife := q.knife.tail }).onRecord x.serial
    fun r => { r with cut := .sent }).fillSlot place (knifeSlot s.job.station.knifeNode x)

/-- R145: a GATE item is late when P is beyond its open position − gate lead. -/
def State.gateLate (s : State) (x : GateItem) : Bool :=
  beyond s.track.pos (shift x.openPos (-(s.job.station.gateLead : Int)))

/-- R114: a late GATE item is counted and its range joins the lane's late-gate list. -/
def State.reportLateGate (x : GateItem) (s : State) : State :=
  (s.charge x.lane .lateGate).onLateGates x.lane (· ++ [{ first := x.first, last := x.last }])

/-- R145: the head of the GATE queue is sent, late or not. -/
def State.sendGate (place : Nat) (x : GateItem) (s : State) : State :=
  let t := s.onSched fun q => { q with gate := q.gate.tail }
  (if s.gateLate x then t.reportLateGate x else t).fillSlot place (gateSlot s.job.station.gateNode x)

/-- The stack list with the first record of this number CHANGING (R131). -/
def changeFirst (number : Nat) : List StackRec → List StackRec
  | [] => []
  | r :: rest =>
    if r.number = number then { r with state := .changing } :: rest else r :: changeFirst number rest

/-- R131, R146: the head of the STACK queue is sent for stack record r; the record becomes CHANGING and the
change timer starts. -/
def State.sendStack (place : Nat) (x : StackItem) (r : StackRec) (s : State) : State :=
  ((s.onSched fun q => { q with stack := q.stack.tail }).onLane x.lane fun l =>
    { l with list := changeFirst x.number l.list,
             timer := some { count := 0, timeout := (s.cfg x.lane).timeout } }).fillSlot place
      (stackSlot (s.cfg x.lane).node x.lane r)

/-- R147: the head of the NOTICE queue is sent. -/
def State.sendNotice (place : Nat) (x : Notice) (s : State) : State :=
  (s.onSched fun q => { q with notices := q.notices.tail }).fillSlot place (noticeSlot x)

/-- R143 steps 2 to 4: the head of the chosen queue is sent, or the slot passes on EMPTY. -/
def State.sendChosen (place : Nat) (s : State) : Host.Outcome State Fault Refusal :=
  let t := s.onSched fun q => q.choose.2
  match s.sched.choose.1, s.sched.gate, s.sched.stack, s.sched.notices with
  | some .gate, x :: _, _, _ => .next (t.sendGate place x)
  | some .stack, _, x :: _, _ =>
    match (s.lane x.lane).list.find? (·.number == x.number) with
    | some r => .next (t.sendStack place x r)
    | none => .fault .orphanStackItem
  | some .notice, _, _, x :: _ => .next (t.sendNotice place x)
  | _, _, _, _ => .next t.passEmpty

/-- R143: the ladder of one offer. -/
def State.offer (place : Nat) (s : State) : Host.Outcome State Fault Refusal :=
  let s := s.dropLateHeads s.sched.knife
  match s.sched.knife with
  | x :: _ => .next (s.sendKnife place x)
  | [] => s.sendChosen place

/-! ## Meaning -/

/-- OWN_EMPTY_SLOT_OFFER (R143); an unaddressed part makes no offer (8.3, R171). -/
def execOwnEmptySlotOffer (slot : BitVec 5) (s : State) : Host.Outcome State Fault Refusal :=
  if s.addressed then s.offer slot.toNat else .next s

end Sys2Proof.Machine
end

