-- ==== Sys2Proof/Machine/Jobs.lean ====
section
/-! DEFINITION. The job controller's requests (section 9): the ARM checks, and the meanings of ARM, START, END,
RESUME and CLEAR. HALT stands in Machine/Hold.lean. -/

namespace Sys2Proof.Machine

/-! ## ARM validation (9.4) -/

/-- The reasons of a BAD_JOB response (Table 9-5). -/
inductive ArmReason
  | lanes | repeatLength | window | stations | leads | knifeHorizon | commitHorizon | span | thresholds
deriving DecidableEq, Repr

/-- Table 11-14. -/
def ArmReason.code : ArmReason → Nat
  | .lanes => 1
  | .repeatLength => 2
  | .window => 3
  | .stations => 4
  | .leads => 5
  | .knifeHorizon => 6
  | .commitHorizon => 7
  | .span => 8
  | .thresholds => 9

/-- The condition that each check of Table 9-5 asks of the records, in exact signed arithmetic (R158). -/
def ArmReason.holds (j : JobRec) (t : StationRec) (l : LoopRec) : ArmReason → Bool
  | .lanes => decide (1 ≤ j.lanes ∧ j.lanes ≤ 8 ∧ 1 ≤ j.cycle ∧ j.cycle ≤ 16)
  | .repeatLength => decide (2000 ≤ j.pitch ∧ j.pitch ≤ 60000 ∧ j.m2c < j.pitch)
  | .window => decide (100 ≤ j.window ∧ 8 * j.window ≤ j.pitch)
  | .stations => decide (t.dC ≤ t.dK ∧ t.dK < t.dX ∧ t.dX < t.dS ∧ t.dK < t.dG ∧ t.dG < t.dS
      ∧ t.dS ≤ 400000)
  | .leads => decide (t.knifeLead < t.knifeHorizon ∧ t.gateLead < t.gateHorizon)
  | .knifeHorizon => decide ((j.window : Int) ≤ (t.dK : Int) - t.knifeHorizon - l.limit)
  | .commitHorizon =>
    decide ((t.dK : Int) + j.pitch + 2 * j.window + l.limit ≤ (t.dG : Int) - t.gateHorizon)
  | .span => decide (ceilDiv ((t.dS : Int) + 2 * j.pitch + l.limit + j.window)
      ((j.pitch : Int) - j.window) + 2 ≤ 256)
  | .thresholds => decide (j.lowThreshold < j.highThreshold ∧ l.lockTolerance < l.unlockTolerance)

/-- The checks in the order of Table 9-5. -/
def armChecks : List ArmReason :=
  [.lanes, .repeatLength, .window, .stations, .leads, .knifeHorizon, .commitHorizon, .span, .thresholds]

/-- The first check of Table 9-5 that fails (R158). -/
def JobControl.armFailure (c : JobControl) : Option ArmReason :=
  armChecks.find? fun x => !x.holds c.job c.station c.loop

/-- ARM (R158, R159). -/
def execArm (s : State) : Host.Outcome State Fault Refusal :=
  .next <| s.ifAddressed fun s =>
    if s.job.state = .config then
      match s.job.armFailure with
      | some reason => s.answer .badJob (beBytes 1 reason.code)
      | none =>
        ((s.onJob fun j => { j with validated := j.loop.limit }).enterJobState .armed .none).reply .ok
    else s.reply .wrongState

/-! ## Running and ending (9.5) -/

/-- R85: START clears the integral, the target and the applied correction. -/
def State.clearLoop (s : State) : State :=
  s.onCut fun c => { c with integral := 0, target := 0, applied := 0 }

/-- R38: START sets the first-record flag. -/
def State.setFirstRecord (s : State) : State :=
  s.onReg fun r => { r with firstRecord := true }

/-- START (R160, R24, R85). -/
def execStart (s : State) : Host.Outcome State Fault Refusal :=
  .next <| s.ifAddressed fun s =>
    if s.job.state = .armed then
      (((s.enterJobState .run .none).restartRegistration.setFirstRecord).clearLoop.restartRamp).reply .ok
    else s.reply .wrongState

/-- R59: the youngest record becomes the tail and closes one repeat after its nominal start. -/
def State.closeTail (s : State) : State :=
  match s.track.queue.getLast? with
  | none => s
  | some r =>
    (s.onRecord r.serial fun x => { x with tail := true }).closeRecord r
      (shift r.nominalStart s.job.job.pitch)

/-- END (R161, R59): an empty queue is reported at once (R61, R138). -/
def execEndJob (s : State) : Host.Outcome State Fault Refusal :=
  .next <| s.ifAddressed fun s =>
    if s.job.state = .run then
      let t := s.closeTail.enterJobState .ending .none
      (if t.track.queue = [] then t.endOfJobClosing else t).reply .ok
    else s.reply .wrongState

/-- RESUME (R167, R25, R85). -/
def execResume (s : State) : Host.Outcome State Fault Refusal :=
  .next <| s.ifAddressed fun s =>
    if s.job.state = .hold then
      ((s.enterJobState .run .none).restartRegistration.restartRamp).reply .ok
    else s.reply .wrongState

/-- CLEAR (R168, R25, R63, R65, R114, R140). -/
def execClear (s : State) : Host.Outcome State Fault Refusal :=
  .next <| s.ifAddressed fun s =>
    if s.job.state = .armed ∨ s.job.state = .hold then
      ((s.enterJobState .config .none).discardQueue.clearRegistration.clearStacks).reply .ok
    else s.reply .wrongState

end Sys2Proof.Machine
end

