-- ==== Sys2Proof/Machine/Tables.lean ====
section
/-! DEFINITION. Table access (10.5.1): the meanings of READ, of the eight WRITEs and of a WRITE that names no
table, by the tests of R175 in their order. -/

namespace Sys2Proof.Machine

/-- What an accepted WRITE does and the response OK, or the code that refuses it (R175). -/
def State.finishWrite {α : Type} (checked : Except RespCode α) (store : α → State → State)
    (s : State) : State :=
  match checked with
  | .ok x => (store x s).reply .ok
  | .error code => s.reply code

/-- A WRITE that only CONFIG takes (R175 step 2). -/
def State.inConfig (f : State → State) (s : State) : State :=
  if s.job.state = .config then f s else s.reply .wrongState

/-- The single entry that a WRITE of a one-entry table carries. -/
def headEntry {α : Type} (checked : Except RespCode (List α)) : Except RespCode α :=
  match checked with
  | .ok (x :: _) => .ok x
  | .ok [] => .error .badLength
  | .error code => .error code

/-- WRITE_JOB (R157). -/
def execWriteJob (index : Half) (count : Byte) (data : List Byte) (s : State) :
    Host.Outcome State Fault Refusal :=
  .next <| s.ifAddressed fun s => s.inConfig fun s =>
    s.finishWrite (headEntry (writeEntries 1 24 JobRec.parse index count data)) fun x s =>
      s.onJob fun j => { j with job := x }

/-- WRITE_STATION (R4). -/
def execWriteStation (index : Half) (count : Byte) (data : List Byte) (s : State) :
    Host.Outcome State Fault Refusal :=
  .next <| s.ifAddressed fun s => s.inConfig fun s =>
    s.finishWrite (headEntry (writeEntries 1 48 StationRec.parse index count data)) fun x s =>
      s.onJob fun j => { j with station := x }

/-- R82: outside CONFIG a limit above the validated limit is refused. -/
def State.checkLimit (s : State) (checked : Except RespCode LoopRec) : Except RespCode LoopRec :=
  match checked with
  | .ok x => if s.job.state ≠ .config ∧ s.job.validated < x.limit then .error .badValue else .ok x
  | .error code => .error code

/-- WRITE_LOOP (R81 to R83). -/
def execWriteLoop (index : Half) (count : Byte) (data : List Byte) (s : State) :
    Host.Outcome State Fault Refusal :=
  .next <| s.ifAddressed fun s =>
    s.finishWrite (s.checkLimit (headEntry (writeEntries 1 12 LoopRec.parse index count data)))
      fun x s => (s.onJob fun j => { j with loop := x }).onCut (·.clampTo x)

/-- WRITE_SENSOR (R17). -/
def execWriteSensor (index : Half) (count : Byte) (data : List Byte) (s : State) :
    Host.Outcome State Fault Refusal :=
  .next <| s.ifAddressed fun s => s.inConfig fun s =>
    s.finishWrite (writeEntries 2 1 Edge.parse index count data) fun es s =>
      s.onReg fun r => { r with edges := storeFrom r.edges index.toNat es }

/-- WRITE_LANE (R119). -/
def execWriteLane (index : Half) (count : Byte) (data : List Byte) (s : State) :
    Host.Outcome State Fault Refusal :=
  .next <| s.ifAddressed fun s =>
    s.finishWrite (writeEntries 8 12 LaneCfg.parse index count data) fun es s =>
      s.onStk fun u => { u with cfg := storeFrom u.cfg index.toNat es }

/-- WRITE_DISP (R102): state, alignment, index, value. -/
def execWriteDisp (index : Half) (count : Byte) (data : List Byte) (s : State) :
    Host.Outcome State Fault Refusal :=
  .next <| s.ifAddressed fun s =>
    if s.job.state ≠ .config ∧ s.job.state ≠ .armed then s.reply .wrongState
    else if index.toNat % 4 ≠ 0 ∨ (count ≠ 4#8 ∧ count ≠ 8#8) then s.reply .badAlign
    else
      s.finishWrite (writeEntries 128 1 DispEntry.parse index count data) fun es s =>
        s.onDisp fun d => { d with disp := storeFrom d.disp index.toNat es }

/-- WRITE_OVERRIDE (R103). -/
def execWriteOverride (index : Half) (count : Byte) (data : List Byte) (s : State) :
    Host.Outcome State Fault Refusal :=
  .next <| s.ifAddressed fun s =>
    s.finishWrite (writeEntries 32 12 OverrideEntry.parse index count data) fun es s =>
      s.onDisp fun d => { d with overrides := storeFrom d.overrides index.toNat es }

/-- WRITE_SCHED (R149): the entries are replaced and the credits reloaded. -/
def execWriteSched (index : Half) (count : Byte) (data : List Byte) (s : State) :
    Host.Outcome State Fault Refusal :=
  .next <| s.ifAddressed fun s =>
    s.finishWrite (writeEntries 3 2 SchedEntry.parse index count data) fun es s =>
      s.onSched fun q => Scheduler.reload { q with table := storeFrom q.table index.toNat es }

/-- Entry size and entries of the table of this identifier, in index order as they stand (Tables 11-5, 11-6,
11-11); none for an identifier that names no table. -/
def State.tableEntries (s : State) (table : Byte) : Option (Nat × List (List Byte)) :=
  match table.toNat with
  | 1 => some (24, [s.job.job.bytes])
  | 2 => some (48, [s.job.station.bytes])
  | 3 => some (12, [s.job.loop.bytes])
  | 4 => some (1, s.reg.edges.toList.map fun e => [e.byte])
  | 5 => some (12, s.stk.cfg.toList.map LaneCfg.bytes)
  | 6 => some (1, s.disp.disp.toList.map DispEntry.bytes)
  | 7 => some (12, s.disp.overrides.toList.map OverrideEntry.bytes)
  | 8 => some (2, s.sched.table.toList.map SchedEntry.bytes)
  | _ => none

/-- The answer to a READ (R175): code and response data. -/
def State.readAnswer (s : State) (table : Byte) (index : Half) (count : Byte) : RespCode × List Byte :=
  match s.tableEntries table with
  | none => (.noTable, [])
  | some (size, entries) =>
    if 8 < count.toNat then (.badLength, [])
    else
      match accessError entries.length size index.toNat count.toNat with
      | some code => (code, [])
      | none => (.ok, ((entries.drop index.toNat).take count.toNat).flatten)

/-- READ (R175). -/
def execRead (table : Byte) (index : Half) (count : Byte) (s : State) :
    Host.Outcome State Fault Refusal :=
  .next <| s.ifAddressed fun s =>
    s.answer (s.readAnswer table index count).1 (s.readAnswer table index count).2

/-- WRITE_NO_TABLE (R175 step 1): a WRITE whose identifier names no table; the other fields are not read. -/
def execWriteNoTable (_table : Byte) (_index : Half) (_count : Byte) (_data : List Byte) (s : State) :
    Host.Outcome State Fault Refusal :=
  .next <| s.ifAddressed fun s => s.reply .noTable

end Sys2Proof.Machine
end

