-- ==== Sys2Proof/Machine/Link.lean ====
section
/-! DEFINITION. The link port (section 10): frames and forwarding, the link-loss timer, the resets, status and
counters, and the commands that a raw frame brings (R169, R170, R174). -/

namespace Sys2Proof.Machine

/-! ## Frames (10.2) -/

/-- R172: a valid frame restarts the link-loss timer with the ring timeout in force and clears LINK_DOWN; the
value before is kept for the link-down field (R176). -/
def State.acceptFrame (s : State) : State :=
  s.onLink fun l => { l with timer := some s.job.station.ringTimeout, linkDown := false,
                             linkDownBefore := l.linkDown }

/-- R169: a frame leaves at link-out as it arrived, unless an event of its passage alters it. -/
def State.forward (bytes : List Byte) (s : State) : State :=
  s.onLink fun l => { l with frame := bytes }

/-- R169, R173: a bad frame is forwarded and counted. -/
def State.takeBadFrame (bytes : List Byte) (s : State) : State :=
  (s.forward bytes).onLink fun l => { l with badFrames := satInc l.badFrames }

/-- R169 steps 1 and 2: a valid frame restarts the timer; a cycle frame is counted by the change timers. Its
slots and its request are events of their own (R170, R174). -/
def State.takeValidFrame (bytes : List Byte) (s : State) : State :=
  let s := (s.forward bytes).acceptFrame
  if isCycle bytes then s.countFrame else s

/-- R169, R171: what the link port does with a frame at link-in, by its own check of it; an unaddressed part
only forwards. -/
def State.receive (bytes : List Byte) (s : State) : State :=
  if s.addressed then
    if frameValid bytes then s.takeValidFrame bytes else s.takeBadFrame bytes
  else s.forward bytes

/-- VALID_FRAME (R169). The part's own check decides what the frame is. -/
def execValidFrame (bytes : List Byte) (s : State) : Host.Outcome State Fault Refusal :=
  .next (s.receive bytes)

/-- BAD_FRAME (R169). The part's own check decides what the frame is. -/
def execBadFrame (bytes : List Byte) (s : State) : Host.Outcome State Fault Refusal :=
  .next (s.receive bytes)

/-! ## Link loss (10.4) -/

/-- LINK_LOSS_TIMER_EXPIRY (R172): a running timer stops, LINK_DOWN is set, the notice is queued, and RUN and
ENDING enter HOLD with cause LINK_LOSS. A stopped timer does not expire. -/
def execLinkLossTimerExpiry (s : State) : Host.Outcome State Fault Refusal :=
  .next <|
    match s.link.timer with
    | none => s
    | some interval =>
      ((s.onLink fun l => { l with timer := none, linkDown := true }).notify .linkDown none
        (BitVec.ofNat 32 interval)).enterHold .linkLoss

/-! ## Resets (10.3, 10.5.3) -/

/-- The soft reset (R178, R155 and the reset rule of each block): tables and node address are kept. Of the model's own
fields of the link port it keeps frame, slotOut and response and clears linkDownBefore, the model's choice (log
entries 2 and 17). -/
def State.soften (s : State) : State :=
  let p := State.powerOn s.link.node
  { p with
    link := { p.link with
      timer := if s.addressed then some s.job.station.ringTimeout else none
      frame := s.link.frame
      slotOut := s.link.slotOut
      response := s.link.response }
    reg := { p.reg with edges := s.reg.edges }
    cut := { p.cut with ramp := rampStart s.job.loop.maxStep }
    disp := { p.disp with disp := s.disp.disp, overrides := s.disp.overrides }
    stk := { p.stk with cfg := s.stk.cfg }
    sched := Scheduler.reload { p.sched with table := s.sched.table }
    job := { p.job with job := s.job.job, station := s.job.station, loop := s.job.loop }
    pending := s.pending }

/-- POWER_ON_RESET (R171): every block takes its power-on values; commands that wait outside still wait. -/
def execPowerOnReset (straps : BitVec 6) (s : State) : Host.Outcome State Fault Refusal :=
  .next { State.powerOn straps with pending := s.pending }

/-- RESET (R178): answered OK, and then the soft reset. -/
def execSoftReset (s : State) : Host.Outcome State Fault Refusal :=
  .next <| s.ifAddressed fun s => (s.reply .ok).soften

/-! ## Status and counters (10.5.2) -/

/-- A lane's three bytes in the status record (Table 11-8). -/
def StackLane.statusBytes (l : StackLane) : List Byte :=
  beBytes 1 l.state.code ++ beBytes 1 l.cause.code ++ beBytes 1 l.list.length

/-- The alarm flags byte (Table 11-8). -/
def alarmByte (low high : Bool) : Byte :=
  BitVec.ofNat 8 ((if low then 1 else 0) + (if high then 2 else 0))

/-- The status record (R176, Table 11-8). -/
def State.statusBytes (s : State) : List Byte :=
  beBytes 1 s.link.node.toNat ++ beBytes 1 s.job.state.code ++ beBytes 1 s.job.cause.code
    ++ beBytes 1 s.reg.state.code ++ intBytes 4 s.pitchEstimate
    ++ [alarmByte s.reg.pitchLow s.reg.pitchHigh, flagByte s.link.linkDownBefore]
    ++ intBytes 2 s.cut.target ++ intBytes 2 s.cut.applied ++ beBytes 4 s.track.pos.toNat
    ++ beBytes 2 s.track.queue.length ++ beBytes 1 s.track.zones.length
    ++ beBytes 1 s.sched.knife.length ++ beBytes 1 s.sched.gate.length
    ++ beBytes 1 s.sched.stack.length ++ beBytes 1 s.sched.notices.length
    ++ (s.stk.lanes.toList.map StackLane.statusBytes).flatten

/-- The eleven device counters in the order of Table 11-9 (R177, Table 10-6). -/
def State.deviceCounters (s : State) : List Word :=
  [s.link.badFrames, s.track.posHeld, s.reg.seekSkip, s.reg.stray, s.reg.designSlip, s.track.stale,
   s.track.zoneMerge, s.cut.strayMeas, s.cut.lateCut, s.stk.strayReady, s.sched.noticesDropped]

/-- The eight counters of a lane in the order of Table 11-9 (R109, R177). -/
def LaneCounters.values (c : LaneCounters) : List Word :=
  [c.stacked, c.rejected, c.wasted, c.gap, c.diverted, c.lost, c.lateInfo, c.lateGate]

/-- A counter block (Table 11-9). -/
def counterBytes (cs : List Word) : List Byte :=
  (cs.map fun c => beBytes 4 c.toNat).flatten

/-- R177: every device counter set to 0. -/
def State.clearDeviceCounters (s : State) : State :=
  { s with
    link := { s.link with badFrames := 0#32 }
    track := { s.track with posHeld := 0#32, stale := 0#32, zoneMerge := 0#32 }
    reg := { s.reg with seekSkip := 0#32, stray := 0#32, designSlip := 0#32 }
    cut := { s.cut with strayMeas := 0#32, lateCut := 0#32 }
    stk := { s.stk with strayReady := 0#32 }
    sched := { s.sched with noticesDropped := 0#32 } }

/-- R110: the eight counters of lane k set to 0. -/
def State.clearLaneCounters (k : Fin 8) (s : State) : State :=
  s.onDisp fun d => { d with counters := modAt d.counters k fun _ => .zero }

/-- READ_STATUS (R176). -/
def execReadStatus (s : State) : Host.Outcome State Fault Refusal :=
  .next <| s.ifAddressed fun s => s.answer .ok s.statusBytes

/-- READ_COUNTERS (R177, R181): H'FF names the device counter set, 0 to 7 a lane. -/
def execReadCounters (selector clear : Byte) (s : State) : Host.Outcome State Fault Refusal :=
  .next <| s.ifAddressed fun s =>
    if selector = 0xFF#8 then
      let t := s.answer .ok (counterBytes s.deviceCounters)
      if flagSet clear then t.clearDeviceCounters else t
    else
      match laneOf selector with
      | none => s.reply .badLane
      | some k =>
        let t := s.answer .ok (counterBytes s.disp.counters[k.val].values)
        if flagSet clear then t.clearLaneCounters k else t

/-- UNKNOWN_REQUEST_KIND (R174). -/
def execUnknownRequestKind (_kind : Byte) (s : State) : Host.Outcome State Fault Refusal :=
  .next <| s.ifAddressed fun s => s.reply .badValue

/-! ## The commands that a frame brings (R169, R170, R174, R181) -/

/-- The command of an input slot or of an own EMPTY slot at this place (R170, Table 11-3, Table 11-10); other
slots pass unaltered and bring none. -/
def slotCommand (node : BitVec 6) (place : Nat) (b : List Byte) : Option Instr :=
  match (byteAt b 0).toNat with
  | 0x00 =>
    if (byteAt b 1).toNat = node.toNat then some (.ownEmptySlotOffer (BitVec.ofNat 5 place)) else none
  | 0x01 => some (.webpos (BitVec.ofNat 32 (fieldAt b 2 4)))
  | 0x02 => some (.markev (byteAt b 2) (byteAt b 3) (BitVec.ofNat 32 (fieldAt b 4 4)))
  | 0x03 => some (.inspect (byteAt b 2) (byteAt b 3) (BitVec.ofNat 32 (fieldAt b 4 4))
      (BitVec.ofNat 16 (fieldAt b 8 2)))
  | 0x04 => some (.splice (BitVec.ofNat 32 (fieldAt b 2 4)))
  | 0x05 => some .webbreak
  | 0x06 => some (.cutmeas (byteAt b 2) (BitVec.ofNat 16 (fieldAt b 3 2)))
  | 0x07 => some (.stkready (byteAt b 2) (BitVec.ofNat 16 (fieldAt b 3 2)))
  | 0x08 => some (.stkfault (byteAt b 2))
  | _ => none

/-- The command of a WRITE request (R175, Table 11-11). -/
def writeCommand (table : Byte) (index : Half) (count : Byte) (data : List Byte) : Instr :=
  match table.toNat with
  | 1 => .writeJob index count data
  | 2 => .writeStation index count data
  | 3 => .writeLoop index count data
  | 4 => .writeSensor index count data
  | 5 => .writeLane index count data
  | 6 => .writeDisp index count data
  | 7 => .writeOverride index count data
  | 8 => .writeSched index count data
  | _ => .writeNoTable table index count data

/-- The command of a service request (R174, R181, Tables 11-2 and 11-10). -/
def requestCommand (b : List Byte) : Instr :=
  let table := byteAt b 3
  let index : Half := BitVec.ofNat 16 (fieldAt b 4 2)
  let count := byteAt b 6
  let data := slice 8 64 b
  match (byteAt b 2).toNat with
  | 0x01 => .read table index count
  | 0x02 => writeCommand table index count data
  | 0x03 => .readStatus
  | 0x04 => .readCounters (byteAt data 0) (byteAt data 1)
  | 0x05 => .ackAlarms
  | 0x06 => .laneEnable (byteAt data 0)
  | 0x07 => .closeStack (byteAt data 0)
  | 0x10 => .arm
  | 0x11 => .start
  | 0x12 => .endJob
  | 0x13 => .halt
  | 0x14 => .resume
  | 0x15 => .clear
  | 0x1F => .softReset
  | _ => .unknownRequestKind (byteAt b 2)

/-- The slots of a cycle frame, with their places (Table 11-1). -/
def frameSlots (b : List Byte) : List (Nat × List Byte) :=
  (List.range (slotCount b)).map fun i => (i, slice (2 + 16 * i) 16 b)

/-- The commands that follow a valid frame's acceptance at a part of this address, in the order of R169: for a
cycle frame the change timers that may have reached their timeouts, from lane 0 upward (the lane order is the
model's, log entry 26), then the slots in slot order; for a service frame addressed to the part its request. -/
def passageCommands (node : BitVec 6) (b : List Byte) : List Instr :=
  if isCycle b then
    allLanes.map .changeTimerExpiry ++ (frameSlots b).filterMap fun (i, slot) => slotCommand node i slot
  else if (byteAt b 1).toNat = node.toNat then [requestCommand b]
  else []

/-- The commands that a raw frame brings to a part of this address (R169 to R171; log entry 3). -/
def commandsOf (node : BitVec 6) (b : List Byte) : List Instr :=
  if frameValid b then
    .validFrame b :: (if addressInUse node then passageCommands node b else [])
  else [.badFrame b]

/-- A raw frame reaches link-in: its commands join those that wait (log entry 3). -/
def State.linkIn (bytes : List Byte) (s : State) : State :=
  { s with pending := s.pending ++ commandsOf s.link.node bytes }

end Sys2Proof.Machine
end

