-- ==== Sys2Proof/Machine/Dispatch.lean ====
section
/-! DEFINITION. One arm per command, each a call of its meaning. -/

namespace Sys2Proof.Machine

def exec (i : Instr) (s : State) : Host.Outcome State Fault Refusal :=
  match i with
  | .powerOnReset straps => Sys2Proof.Machine.execPowerOnReset straps s
  | .validFrame bytes => Sys2Proof.Machine.execValidFrame bytes s
  | .badFrame bytes => Sys2Proof.Machine.execBadFrame bytes s
  | .webpos reported => Sys2Proof.Machine.execWebpos reported s
  | .markev channel edge captured => Sys2Proof.Machine.execMarkev channel edge captured s
  | .inspect valid lanes captured length => Sys2Proof.Machine.execInspect valid lanes captured length s
  | .splice captured => Sys2Proof.Machine.execSplice captured s
  | .webbreak => Sys2Proof.Machine.execWebbreak s
  | .cutmeas valid error => Sys2Proof.Machine.execCutmeas valid error s
  | .stkready lane number => Sys2Proof.Machine.execStkready lane number s
  | .stkfault lane => Sys2Proof.Machine.execStkfault lane s
  | .ownEmptySlotOffer slot => Sys2Proof.Machine.execOwnEmptySlotOffer slot s
  | .linkLossTimerExpiry => Sys2Proof.Machine.execLinkLossTimerExpiry s
  | .changeTimerExpiry lane => Sys2Proof.Machine.execChangeTimerExpiry lane s
  | .read table index count => Sys2Proof.Machine.execRead table index count s
  | .writeJob index count data => Sys2Proof.Machine.execWriteJob index count data s
  | .writeStation index count data => Sys2Proof.Machine.execWriteStation index count data s
  | .writeLoop index count data => Sys2Proof.Machine.execWriteLoop index count data s
  | .writeSensor index count data => Sys2Proof.Machine.execWriteSensor index count data s
  | .writeLane index count data => Sys2Proof.Machine.execWriteLane index count data s
  | .writeDisp index count data => Sys2Proof.Machine.execWriteDisp index count data s
  | .writeOverride index count data => Sys2Proof.Machine.execWriteOverride index count data s
  | .writeSched index count data => Sys2Proof.Machine.execWriteSched index count data s
  | .readStatus => Sys2Proof.Machine.execReadStatus s
  | .readCounters selector clear => Sys2Proof.Machine.execReadCounters selector clear s
  | .ackAlarms => Sys2Proof.Machine.execAckAlarms s
  | .laneEnable lane => Sys2Proof.Machine.execLaneEnable lane s
  | .closeStack lane => Sys2Proof.Machine.execCloseStack lane s
  | .arm => Sys2Proof.Machine.execArm s
  | .start => Sys2Proof.Machine.execStart s
  | .endJob => Sys2Proof.Machine.execEndJob s
  | .halt => Sys2Proof.Machine.execHalt s
  | .resume => Sys2Proof.Machine.execResume s
  | .clear => Sys2Proof.Machine.execClear s
  | .softReset => Sys2Proof.Machine.execSoftReset s
  | .unknownRequestKind kind => Sys2Proof.Machine.execUnknownRequestKind kind s
  | .writeNoTable table index count data => Sys2Proof.Machine.execWriteNoTable table index count data s

end Sys2Proof.Machine
end

