-- ==== Sys2Proof/Safety.lean ====
section
/-! DEFINITION. What a safe state of the part is, in the terms that the statements use: the capacities, the
phases of a job, the shape of the repeat queue and of the stack lists, the bounds of the loop, the spacing of
the anchors, the balance of labels, and the ranges that a table entry may hold. Each is a decidable
proposition. -/

namespace Sys2Proof.Machine

/-! ## Queues (Tables 8-1 and 8-2, R41, R65, R148 to R150) -/

/-- No list of the part holds more than its capacity (R41, R65, R142). -/
abbrev State.CapacitiesHold (s : State) : Prop :=
  s.track.queue.length ≤ 256 ∧ s.track.zones.length ≤ 64 ∧ s.sched.knife.length ≤ 8
    ∧ s.sched.gate.length ≤ 16 ∧ s.sched.notices.length ≤ 16

/-- At most one NOTICE item of a kind and lane waits, and each has a count from 1 to 255 (R150). -/
abbrev Scheduler.NoticesApart (q : Scheduler) : Prop :=
  (q.notices.map fun n => (n.kind, n.lane)).Nodup ∧ ∀ n ∈ q.notices, 1 ≤ n.count ∧ n.count ≤ 255

/-- Every SCHED weight lies from 1 to 15, and no ratio credit is above 15 (R148, R149). -/
abbrev Scheduler.CreditsFit (q : Scheduler) : Prop :=
  (∀ e ∈ q.table.toList, 1 ≤ e.weight ∧ e.weight ≤ 15)
    ∧ q.gateCredit ≤ 15 ∧ q.stackCredit ≤ 15 ∧ q.noticeCredit ≤ 15

/-! ## Job phases (R155, R49, R64, R114, R153) -/

/-- The hold cause is NONE in every state but HOLD, and HOLD has a cause (R155). -/
abbrev State.CauseAgrees (s : State) : Prop :=
  s.job.cause = .none ↔ s.job.state ≠ .hold

/-- In CONFIG, ARMED and HOLD the repeat queue is empty (R49, R64). -/
abbrev State.QueueIdles (s : State) : Prop :=
  s.job.state = .run ∨ s.job.state = .ending ∨ s.track.queue = []

/-- In HOLD no KNIFE or GATE command waits and no late gate is on record (R153, R114). -/
abbrev State.HoldIsQuiet (s : State) : Prop :=
  s.job.state = .hold → s.sched.knife = [] ∧ s.sched.gate = [] ∧ ∀ l ∈ s.disp.lateGates.toList, l = []

/-! ## The repeat queue (R41, R43, R47, R56, R59) -/

/-- Serials run consecutively, and the next serial follows the last of them (R41, R45). -/
abbrev State.SerialsRun (s : State) : Prop :=
  (s.track.queue.map (·.serial) ++ [s.track.nextSerial]).IsChain fun a b => a + 1#32 = b

/-- Every record but the youngest is closed where the next one starts, and is no tail (R41, R47, R60). -/
abbrev State.ExtentsMeet (s : State) : Prop :=
  (s.track.queue.IsChain fun a b => a.nominalEnd = some b.nominalStart)
    ∧ ∀ r ∈ s.track.queue.dropLast, r.tail = false

/-- The youngest record is open in RUN, and the closed tail in ENDING (R41, R59). -/
abbrev State.YoungestStands (s : State) : Prop :=
  ∀ r ∈ s.track.queue.getLast?,
    (s.job.state = .run → r.nominalEnd = none ∧ r.tail = false)
      ∧ (s.job.state = .ending →
          r.nominalEnd = some (shift r.nominalStart s.job.job.pitch) ∧ r.tail = true)

/-- A record older than a committed one is committed (R56). -/
abbrev State.CommitsInOrder (s : State) : Prop :=
  s.track.queue.Pairwise fun a b => b.commit = .committed → a.commit = .committed

/-- R43 for one lane entry, L lanes being in use: nothing is decided before the commit or outside the lanes in
use, every lane in use is decided by the commit, and exactly the STACK outcomes have a stack reference. -/
abbrev Record.LaneDecided (lanes : Nat) (r : Record) (k : Fin 8) : Prop :=
  (r.commit = .uncommitted ∨ lanes ≤ k.val →
      r.lanes[k.val].outcome = none ∧ r.lanes[k.val].override = none ∧ r.lanes[k.val].stackRef = none)
    ∧ (r.commit = .committed ∧ k.val < lanes → r.lanes[k.val].outcome ≠ none)
    ∧ (r.lanes[k.val].stackRef.isSome = true ↔ r.lanes[k.val].outcome = some .stack)

/-- The shape of the repeat queue (R41, R43, R45, R47, R49, R56, R59). -/
abbrev State.QueueShape (s : State) : Prop :=
  s.track.queue.length ≤ 256 ∧ s.QueueIdles ∧ s.SerialsRun ∧ s.ExtentsMeet ∧ s.YoungestStands
    ∧ s.CommitsInOrder ∧ ∀ r ∈ s.track.queue, ∀ k : Fin 8, r.LaneDecided s.job.job.lanes k

/-- No serial stands twice in the queue (R41). -/
abbrev State.SerialsApart (s : State) : Prop :=
  (s.track.queue.map (·.serial)).Nodup

/-! ## The anchors (R30, R32, R41, R158) -/

/-- The JOB record's repeat length and window as ARM passes them (Table 9-5, checks 2 and 3). -/
abbrev JobRec.Spaced (j : JobRec) : Prop :=
  2000 ≤ j.pitch ∧ j.pitch ≤ 60000 ∧ 100 ≤ j.window ∧ 8 * j.window ≤ j.pitch

/-- Anchors strictly increase along the queue, and what keeps them so: the job that ARM passed, the estimate
within the clamp, the last anchor that of the youngest record in RUN (R23, R30, R32, R33, R41). -/
abbrev State.AnchorsRise (s : State) : Prop :=
  s.QueueIdles ∧ (s.job.state ≠ .config → s.job.job.Spaced)
    ∧ (s.job.state = .config → s.reg.samples = [])
    ∧ (2 ^ s.job.job.depth ≤ s.reg.samples.length →
        (s.job.job.pitch : Int) - s.job.job.window ≤ s.reg.estimate
          ∧ s.reg.estimate ≤ (s.job.job.pitch : Int) + s.job.job.window)
    ∧ (s.track.queue.IsChain fun a b => beyond b.anchor a.anchor = true)
    ∧ (s.job.state = .run → ∀ r ∈ s.track.queue.getLast?, s.reg.lastAnchor = r.anchor)

/-! ## A record created (R30, R46, R47) -/

/-- The design that R38 gives the next record. -/
abbrev State.designByRule (s : State) : Nat :=
  if s.reg.firstRecord = true ∨ s.reg.cyclePending = true then 0 else (s.reg.design + 1) % s.job.job.cycle

/-- The design that counting would give the next record (R38). -/
abbrev State.countedByRule (s : State) : Nat :=
  (s.reg.design + 1) % s.job.job.cycle

/-- The next record is a design slip (R38 step 2). -/
abbrev State.SlipDue (s : State) : Prop :=
  s.reg.firstRecord = false ∧ s.reg.cyclePending = true ∧ s.countedByRule ≠ 0

/-- The output scheduler q with the DESIGN_SLIP notice of the next record of s, if that is a slip (R38 step 2). -/
def State.withSlipNotice (s : State) (q : Scheduler) : Scheduler :=
  if s.SlipDue then q.notify .designSlip none (BitVec.ofNat 32 s.countedByRule) else q

/-- The youngest record, which an append closes, is not committed (R56: its label end does not exist yet). -/
abbrev State.YoungestUncommitted (s : State) : Prop :=
  ∀ r ∈ s.track.queue.getLast?, r.commit = .uncommitted

/-- The next record of s, open and with the initial values of Table 3-2. -/
def State.nextRecord (s : State) (anchor : Word) (origin : Origin) (cls : RegState) : Record :=
  { serial := s.track.nextSerial, design := s.designByRule, anchor, origin, cls,
    nominalStart := shift anchor s.job.job.m2c, nominalEnd := none, cut := .pending, cutLine := none,
    check := .unchecked, tail := false, lateNext := false, commit := .uncommitted,
    lanes := Vector.replicate 8
      { defect := false, splice := false, override := none, outcome := none, stackRef := none } }

/-- The record x at the young end of the queue, the next serial counted, and the record that was youngest closed
at x's nominal start (R46, R47). -/
def State.joinedBy (s : State) (x : Record) : State :=
  let t : State := { s with track := { s.track with
    queue := s.track.queue ++ [x], nextSerial := s.track.nextSerial + 1#32 } }
  match s.track.queue.getLast? with
  | none => t
  | some young => t.closeRecord young x.nominalStart

/-- From s to t exactly one record was appended, open and with the initial values of Table 3-2, the record before
it was closed where it starts, the registration unit made the updates of R30 for it, and what the creation of a
record does not concern stayed as it was. -/
abbrev State.Appended (s t : State) (anchor : Word) (origin : Origin) (cls : RegState) : Prop :=
  t.track.queue.getLast? = some (s.nextRecord anchor origin cls)
    ∧ t.track = (s.joinedBy (s.nextRecord anchor origin cls)).track
    ∧ t.disp = (s.joinedBy (s.nextRecord anchor origin cls)).disp
    ∧ t.stk = (s.joinedBy (s.nextRecord anchor origin cls)).stk
    ∧ t.track.queue.length = s.track.queue.length + 1
    ∧ t.track.nextSerial = s.track.nextSerial + 1#32
    ∧ t.reg.lastAnchor = anchor ∧ t.reg.lastOrigin = some origin ∧ t.reg.design = s.designByRule
    ∧ t.reg.cyclePending = false ∧ t.reg.firstRecord = false
    ∧ t.reg.designSlip = (if s.SlipDue then satInc s.reg.designSlip else s.reg.designSlip)
    ∧ (t.track.queue.dropLast.map fun r => (r.serial, r.anchor, r.cut, r.check, r.commit, r.tail))
        = (s.track.queue.map fun r => (r.serial, r.anchor, r.cut, r.check, r.commit, r.tail))
    ∧ t.track.pos = s.track.pos ∧ t.track.posHeld = s.track.posHeld
    ∧ t.reg.edges = s.reg.edges ∧ t.reg.seekSkip = s.reg.seekSkip ∧ t.reg.stray = s.reg.stray
    ∧ t.link = s.link ∧ t.cut = s.cut ∧ t.job = s.job ∧ t.stk.cfg = s.stk.cfg
    ∧ t.disp.disp = s.disp.disp ∧ t.disp.overrides = s.disp.overrides
    ∧ t.disp.lateGates = s.disp.lateGates ∧ t.sched.knife = s.sched.knife
    ∧ t.sched.gate = s.sched.gate ∧ t.sched.stack = s.sched.stack

/-- The next serial is not in the queue (R41, R45: so it is in every state that a run reaches). -/
abbrev State.NextSerialFree (s : State) : Prop :=
  ∀ r ∈ s.track.queue, r.serial ≠ s.track.nextSerial

/-! ## The correction loop (R84) -/

/-- The loop state lies within its bounds (R84). -/
abbrev State.LoopBounded (s : State) : Prop :=
  s.cut.target.natAbs ≤ s.job.loop.limit ∧ s.cut.applied.natAbs ≤ s.job.loop.limit
    ∧ s.cut.integral.natAbs ≤ s.job.loop.limit * 256
    ∧ 1 ≤ s.cut.ramp ∧ s.cut.ramp ≤ max 1 s.job.loop.maxStep

/-! ## Stack lists (R121, R122, R130, R131, R135) -/

/-- One stack record keeps R122: it has a label, an ASSIGNING record is below its target and not requested, a
requested record has all its labels landed. -/
abbrev StackRec.Sound (r : StackRec) : Prop :=
  1 ≤ r.assigned ∧ (r.state = .assigning → r.assigned < r.target ∧ r.requested = false)
    ∧ (r.requested = true → r.assigned ≤ r.arrived)

/-- The shape of a lane (R121, R122, R130, R135): at most four records; only the oldest may be CHANGING or
requested, only the youngest ASSIGNING; the timer runs exactly while the oldest is CHANGING; no due change is
unrequested; a lane in FAULT is empty and has a cause. -/
abbrev StackLane.Sound (l : StackLane) : Prop :=
  l.list.length ≤ 4 ∧ (∀ r ∈ l.list, r.Sound)
    ∧ (∀ r ∈ l.list.tail, r.state ≠ .changing ∧ r.requested = false)
    ∧ (∀ r ∈ l.list.dropLast, r.state ≠ .assigning)
    ∧ (l.timer.isSome = l.changing)
    ∧ (∀ r ∈ l.list.head?, r.changeDue = false ∧ (r.state = .changing → r.requested = true))
    ∧ (l.state = .fault → l.list = [] ∧ l.gap = 0)
    ∧ (l.state = .ready ↔ l.cause = .none)

/-- The change of a list's oldest record is due (R130). -/
abbrev StackRec.DueByRule (r : StackRec) : Prop :=
  r.state = .filled ∧ r.arrived = r.assigned ∧ r.requested = false

/-- A stack list after the test of R130: its oldest record is marked requested if its change is due. -/
def changeAsked : List StackRec → List StackRec
  | r :: rest => if r.DueByRule then { r with requested := true } :: rest else r :: rest
  | [] => []

/-- The STACK item that the test of R130 queues for a list of lane k. -/
def changeItems (k : Fin 8) : List StackRec → List StackItem
  | r :: _ => if r.DueByRule then [{ lane := k, number := r.number }] else []
  | [] => []

/-- The stack number that the lane's STACK item must name: its oldest record's, if that is requested and not
yet CHANGING (R130, R146). -/
def StackLane.queued (l : StackLane) : List Nat :=
  match l.list with
  | r :: _ => if r.requested = true ∧ r.state = .filled then [r.number] else []
  | [] => []

/-- The stacking unit's shape: every lane is sound, every LANE target is at least 1, and the STACK queue holds
exactly one item for each requested change and no other (R119, R130, R146). -/
abbrev State.StackingSound (s : State) : Prop :=
  ∀ k : Fin 8, (s.lane k).Sound ∧ 1 ≤ (s.cfg k).target
    ∧ (s.sched.stack.filter (·.lane == k)).map (·.number) = (s.lane k).queued

/-! ## The balance of labels (R111) -/

/-- The labels of a lane that its six outcome counters have counted (R109). -/
def LaneCounters.outcomes (c : LaneCounters) : Nat :=
  c.stacked.toNat + c.rejected.toNat + c.wasted.toNat + c.gap.toNat + c.diverted.toNat + c.lost.toNat

/-- The labels of lane k in the repeat queue that no outcome counter has counted yet: those of uncommitted
records, and those whose outcome is STACK (R109, R118). -/
def State.uncounted (s : State) (k : Fin 8) : Nat :=
  (s.track.queue.filter fun r => r.commit == .uncommitted || r.lanes[k.val].outcome == some .stack).length

/-- Labels of lane k counted, and labels still to be counted (R111). -/
def State.labelBalance (s : State) (k : Fin 8) : Nat :=
  s.disp.counters[k.val].outcomes + s.uncounted k

/-- No outcome counter of lane k is near its saturation (R109): each has room for a label of every one of the
256 records in the queue and of every one that a command can create. -/
abbrev State.CountersHaveRoom (s : State) (k : Fin 8) : Prop :=
  let c := s.disp.counters[k.val]
  c.stacked.toNat < 4294966271 ∧ c.rejected.toNat < 4294966271 ∧ c.wasted.toNat < 4294966271
    ∧ c.gap.toNat < 4294966271 ∧ c.diverted.toNat < 4294966271 ∧ c.lost.toNat < 4294966271

/-- The command sets lane counters to 0: a reset, or READ_COUNTERS of a lane with its clear flag (R109,
R110). -/
def clearsLaneCounters : Instr → Bool
  | .powerOnReset _ => true
  | .softReset => true
  | .readCounters selector clear => flagSet clear && (laneOf selector).isSome
  | _ => false

/-! ## What a WRITE tests (R175, R102, R82) -/

/-- The table of this identifier may be written in the job state in force (R175 step 2). -/
def State.writable (s : State) (table : Byte) : Bool :=
  if table = 1#8 ∨ table = 2#8 ∨ table = 4#8 then s.job.state == .config
  else if table = 6#8 then s.job.state == .config || s.job.state == .armed
  else true

/-- A DISP WRITE whose index or count fails the alignment test (R175 step 3). -/
def dispMisaligned (table : Byte) (index : Half) (count : Byte) : Bool :=
  table == 6#8 && (index.toNat % 4 != 0 || (count != 4#8 && count != 8#8))

/-- An entry for the table of this identifier that a WRITE takes: every field in its range, and outside CONFIG a
LOOP limit no higher than the validated limit (R175 step 6). -/
def State.entryTaken (s : State) (table : Byte) (b : List Byte) : Bool :=
  match table.toNat with
  | 1 => (JobRec.parse b).isSome
  | 2 => (StationRec.parse b).isSome
  | 3 =>
    match LoopRec.parse b with
    | some r => s.job.state == .config || r.limit ≤ s.job.validated
    | none => false
  | 4 => (Edge.parse b).isSome
  | 5 => (LaneCfg.parse b).isSome
  | 6 => (DispEntry.parse b).isSome
  | 7 => (OverrideEntry.parse b).isSome
  | 8 => (SchedEntry.parse b).isSome
  | _ => false

/-! ## The ranges of table entries (Tables 1-8, 5-2, 7-2 and 9-4, R149) -/

/-- Table 9-4. -/
abbrev JobRec.InRange (r : JobRec) : Prop :=
  (1 ≤ r.lanes ∧ r.lanes ≤ 8) ∧ (2000 ≤ r.pitch ∧ r.pitch ≤ 60000) ∧ (1 ≤ r.cycle ∧ r.cycle ≤ 16)
    ∧ r.m2c ≤ 59999 ∧ (100 ≤ r.window ∧ r.window ≤ 7500) ∧ r.missingLimit ≤ 15 ∧ r.depth ≤ 5
    ∧ r.lowThreshold ≤ 67500 ∧ r.highThreshold ≤ 67500 ∧ r.marginBefore ≤ 60000
    ∧ r.marginAfter ≤ 60000

/-- Table 1-8. -/
abbrev StationRec.InRange (r : StationRec) : Prop :=
  (-400000 ≤ r.dC ∧ r.dC ≤ 400000) ∧ (-400000 ≤ r.dU ∧ r.dU ≤ 0) ∧ (1 ≤ r.dK ∧ r.dK ≤ 200000)
    ∧ (1 ≤ r.dX ∧ r.dX ≤ 400000) ∧ (1 ≤ r.dG ∧ r.dG ≤ 400000) ∧ (1 ≤ r.dS ∧ r.dS ≤ 400000)
    ∧ (1 ≤ r.knifeHorizon ∧ r.knifeHorizon ≤ 200000) ∧ r.knifeLead ≤ 199999
    ∧ (1 ≤ r.gateHorizon ∧ r.gateHorizon ≤ 400000) ∧ r.gateLead ≤ 399999 ∧ r.reverseTolerance ≤ 5000
    ∧ (1 ≤ r.knifeNode ∧ r.knifeNode ≤ 62) ∧ (1 ≤ r.gateNode ∧ r.gateNode ≤ 62)
    ∧ (1 ≤ r.ringTimeout ∧ r.ringTimeout ≤ 255)

/-- Table 5-2. -/
abbrev LoopRec.InRange (r : LoopRec) : Prop :=
  r.kp ≤ 1023 ∧ r.ki ≤ 1023 ∧ r.limit ≤ 5000 ∧ (1 ≤ r.maxStep ∧ r.maxStep ≤ 500)
    ∧ (1 ≤ r.lockTolerance ∧ r.lockTolerance ≤ 1000)
    ∧ (r.lockTolerance + 1 ≤ r.unlockTolerance ∧ r.unlockTolerance ≤ 4095)

/-- Table 7-2. -/
abbrev LaneCfg.InRange (r : LaneCfg) : Prop :=
  (1 ≤ r.node ∧ r.node ≤ 62) ∧ (1 ≤ r.target ∧ r.target ≤ 65535) ∧ r.changeGap ≤ 15 ∧ r.holdLimit ≤ 15
    ∧ (1 ≤ r.timeout ∧ r.timeout ≤ 65535) ∧ r.gatePre ≤ 10000 ∧ r.gatePost ≤ 10000

/-- R149. -/
abbrev SchedEntry.InRange (e : SchedEntry) : Prop :=
  1 ≤ e.weight ∧ e.weight ≤ 15

end Sys2Proof.Machine
end

