-- ==== Sys2Proof/WellFormed.lean ====
section
/-! DEFINITION. Which terms of Instr are commands that the ring can bring: the checks that the types of the
operands do not already make. -/

namespace Sys2Proof

/-- The request data area has 64 bytes (Table 11-2). -/
def dataAreaFits (data : List Byte) : Bool :=
  data.length == 64

/-- The identifier names one of the eight tables (Table 11-11). -/
def namesTable (table : Byte) : Bool :=
  1 ≤ table.toNat && table.toNat ≤ 8

/-- The request kinds of Table 11-10. -/
def namesRequest (kind : Byte) : Bool :=
  [0x01, 0x02, 0x03, 0x04, 0x05, 0x06, 0x07, 0x10, 0x11, 0x12, 0x13, 0x14, 0x15, 0x1F].contains
    kind.toNat

/-- A command that can reach the part: a frame is what its row says it is (R169), a WRITE carries a whole
data area (Table 11-2), an unknown kind or table is unknown (R174, R175). -/
def WellFormed : Instr → Bool
  | .powerOnReset _ => true
  | .validFrame bytes => Machine.frameValid bytes
  | .badFrame bytes => !Machine.frameValid bytes
  | .webpos _ => true
  | .markev _ _ _ => true
  | .inspect _ _ _ _ => true
  | .splice _ => true
  | .webbreak => true
  | .cutmeas _ _ => true
  | .stkready _ _ => true
  | .stkfault _ => true
  | .ownEmptySlotOffer _ => true
  | .linkLossTimerExpiry => true
  | .changeTimerExpiry _ => true
  | .read _ _ _ => true
  | .writeJob _ _ data => dataAreaFits data
  | .writeStation _ _ data => dataAreaFits data
  | .writeLoop _ _ data => dataAreaFits data
  | .writeSensor _ _ data => dataAreaFits data
  | .writeLane _ _ data => dataAreaFits data
  | .writeDisp _ _ data => dataAreaFits data
  | .writeOverride _ _ data => dataAreaFits data
  | .writeSched _ _ data => dataAreaFits data
  | .readStatus => true
  | .readCounters _ _ => true
  | .ackAlarms => true
  | .laneEnable _ => true
  | .closeStack _ => true
  | .arm => true
  | .start => true
  | .endJob => true
  | .halt => true
  | .resume => true
  | .clear => true
  | .softReset => true
  | .unknownRequestKind kind => !namesRequest kind
  | .writeNoTable table _ _ data => !namesTable table && dataAreaFits data

end Sys2Proof
end

