-- ==== Sys2Proof/Certificates/Slice0/Obligations.lean ====
section
/-! DEFINITION. The statements for the provers, in the order of OBLIGATIONS.json: the step, the resets, the link,
the tables, the tracked position, registration, holds, zones, cuts, disposition, stacking, output, jobs, and
what every command keeps. Rules are cited as R1 to R181 of spec/. -/

open Sys2Proof Sys2Proof.Machine

/-! ## The step and the resets -/

/-- The command at the front of the queue is executed with the rest waiting; with none waiting the state stays
(the idle step is the model's choice, log entry 5). -/
def Obligations.FrontCommandRuns : Prop :=
  (∀ (c : Instr) (rest : List Instr) (s : State), s.pending = c :: rest →
      step s = exec c { s with pending := rest })
    ∧ ∀ s : State, s.pending = [] → step s = .next s

/-- Every command answers a next state that leaves the waiting commands alone, but for the one fault of an offer
(log entry 14). That State holds a queue of waiting commands, and that POWER_ON_RESET and RESET leave it alone,
are the model's choices (log entries 3 and 25). -/
def Obligations.CommandsKeepTheQueue : Prop :=
  ∀ (c : Instr) (s : State),
    (∃ t, exec c s = .next t ∧ t.pending = s.pending)
      ∨ ∃ slot, c = .ownEmptySlotOffer slot ∧ exec c s = .fault .orphanStackItem

/-- POWER_ON_RESET completes with the power-on value of every field that the manual gives one (R6, R9, R15, R17,
R20, R23, R33, R34, R37 to R41, R45, R65, R78, R80, R84, R100, R101, R103, R109, R114, R119, R121, R141, R148,
R149, R152, R155, R157, R159, R171 to R173). That the waiting commands still wait is the model's choice (log entry
25). -/
def Obligations.PowerOnResetValues : Prop :=
  ∀ (straps : BitVec 6) (s : State), ∃ t, exec (.powerOnReset straps) s = .next t
    ∧ (t.link.node = straps ∧ t.link.linkDown = false ∧ t.link.badFrames = 0#32
      ∧ t.link.timer = if 1 ≤ straps.toNat ∧ straps.toNat ≤ 62 then some 10 else none)
    ∧ t.track = { pos := 0#32, posHeld := 0#32, queue := [], nextSerial := 0#32, zones := [],
                  stale := 0#32, zoneMerge := 0#32 }
    ∧ (t.reg.edges = Vector.replicate 2 .leading ∧ t.reg.state = .free ∧ t.reg.lastAnchor = 0#32
      ∧ t.reg.lastOrigin = none ∧ t.reg.missing = 0 ∧ t.reg.samples = [] ∧ t.reg.pitchLow = false
      ∧ t.reg.pitchHigh = false ∧ t.reg.design = 0 ∧ t.reg.firstRecord = false
      ∧ t.reg.cyclePending = false ∧ t.reg.seekSkip = 0#32 ∧ t.reg.stray = 0#32
      ∧ t.reg.designSlip = 0#32)
    ∧ t.cut = { integral := 0, target := 0, applied := 0, ramp := 1, strayMeas := 0#32,
                lateCut := 0#32 }
    ∧ t.disp = { disp := Vector.replicate 128 { valid := false, action := .waste },
                 overrides := Vector.replicate 32
                   { valid := false, action := .forceReject, first := 0#32, last := 0#32, lanes := 0#8 },
                 counters := Vector.replicate 8
                   { stacked := 0#32, rejected := 0#32, wasted := 0#32, gap := 0#32, diverted := 0#32,
                     lost := 0#32, lateInfo := 0#32, lateGate := 0#32 },
                 lateGates := Vector.replicate 8 [] }
    ∧ t.stk = { cfg := Vector.replicate 8
                  { enabled := false, node := 0, target := 100, changeGap := 0, holdLimit := 4,
                    timeout := 4000, gatePre := 0, gatePost := 0 },
                lanes := Vector.replicate 8
                  { state := .ready, cause := .none, gap := 0, next := 1, timer := none, list := [] },
                strayReady := 0#32 }
    ∧ t.sched = { knife := [], gate := [], stack := [], notices := [], gateCredit := 0,
                  stackCredit := 4, noticeCredit := 1,
                  table := #v[{ mode := .strict, weight := 1 }, { mode := .ratio, weight := 4 },
                              { mode := .ratio, weight := 1 }],
                  noticesDropped := 0#32 }
    ∧ t.job = { state := .config, cause := .none, validated := 0,
                job := { lanes := 0, pitch := 0, cycle := 0, m2c := 0, window := 0, missingLimit := 0,
                         depth := 0, lowThreshold := 0, highThreshold := 0, windowMode := false,
                         policy := .stack, marginBefore := 0, marginAfter := 0 },
                station := { dC := 0, dU := 0, dK := 0, dX := 0, dG := 0, dS := 0, knifeHorizon := 0,
                             knifeLead := 0, gateHorizon := 0, gateLead := 0, reverseTolerance := 200,
                             knifeNode := 0, gateNode := 0, ringTimeout := 10 },
                loop := { kp := 0, ki := 0, limit := 0, maxStep := 0, lockTolerance := 0,
                          unlockTolerance := 0 } }
    ∧ t.pending = s.pending

/-- RESET completes: answered OK, tables and node address kept, every other piece of state at its soft-reset
value (R178 and the reset rule of each block). That the frame in passage and the response stay, and the waiting
commands wait, is the model's choice (log entries 2 and 25). -/
def Obligations.SoftResetKeepsTables : Prop :=
  ∀ s : State, s.addressed = true → ∃ t, exec .softReset s = .next t
    ∧ (t.link.node = s.link.node ∧ t.link.timer = some s.job.station.ringTimeout
      ∧ t.link.linkDown = false ∧ t.link.badFrames = 0#32
      ∧ t.link.response = some { code := .ok, data := List.replicate 64 0#8 }
      ∧ t.link.frame = writeResponse { code := .ok, data := List.replicate 64 0#8 } s.link.frame)
    ∧ t.track = { pos := 0#32, posHeld := 0#32, queue := [], nextSerial := 0#32, zones := [],
                  stale := 0#32, zoneMerge := 0#32 }
    ∧ (t.reg.edges = s.reg.edges ∧ t.reg.state = .free ∧ t.reg.lastAnchor = 0#32
      ∧ t.reg.lastOrigin = none ∧ t.reg.missing = 0 ∧ t.reg.samples = [] ∧ t.reg.pitchLow = false
      ∧ t.reg.pitchHigh = false ∧ t.reg.design = 0 ∧ t.reg.firstRecord = false
      ∧ t.reg.cyclePending = false ∧ t.reg.seekSkip = 0#32 ∧ t.reg.stray = 0#32
      ∧ t.reg.designSlip = 0#32)
    ∧ t.cut = { integral := 0, target := 0, applied := 0, ramp := max 1 (s.job.loop.maxStep / 32),
                strayMeas := 0#32, lateCut := 0#32 }
    ∧ t.disp = { disp := s.disp.disp, overrides := s.disp.overrides,
                 counters := Vector.replicate 8
                   { stacked := 0#32, rejected := 0#32, wasted := 0#32, gap := 0#32, diverted := 0#32,
                     lost := 0#32, lateInfo := 0#32, lateGate := 0#32 },
                 lateGates := Vector.replicate 8 [] }
    ∧ t.stk = { cfg := s.stk.cfg,
                lanes := Vector.replicate 8
                  { state := .ready, cause := .none, gap := 0, next := 1, timer := none, list := [] },
                strayReady := 0#32 }
    ∧ (t.sched.knife = [] ∧ t.sched.gate = [] ∧ t.sched.stack = [] ∧ t.sched.notices = []
      ∧ t.sched.table = s.sched.table ∧ t.sched.noticesDropped = 0#32
      ∧ t.sched.gateCredit = (if s.sched.table[0].mode = .ratio then s.sched.table[0].weight else 0)
      ∧ t.sched.stackCredit = (if s.sched.table[1].mode = .ratio then s.sched.table[1].weight else 0)
      ∧ t.sched.noticeCredit = (if s.sched.table[2].mode = .ratio then s.sched.table[2].weight else 0))
    ∧ t.job = { s.job with state := .config, cause := .none, validated := 0 }
    ∧ t.pending = s.pending

/-! ## The link port -/

/-- VALID_FRAME and BAD_FRAME complete at an addressed part: the frame is forwarded; a valid one restarts the
link-loss timer and clears LINK_DOWN, and a cycle frame is counted by every running change timer; a bad one is
counted and nothing else. A frame is valid when its CRC field is the CRC of the bytes before it and it is a cycle
frame of 1 to 32 slots and 16 n + 6 bytes or a service frame of 140 bytes (R169, R172, R132, R173, R179). The frame
as it leaves, and the LINK_DOWN value kept from just before (R176), stand in fields of the model's choice (log
entries 2, 4 and 17). -/
def Obligations.FramesAreTaken : Prop :=
  (∀ b : List Byte,
    let shifted (r : Nat) : Nat :=
      if r < 2147483648 then 2 * r else (2 * r % 4294967296) ^^^ 0x04C11DB7
    let slots := (byteAt b 1).toNat
    crc32 b = 4294967295 - b.foldl (fun r x => shifted^[8] (r ^^^ (x.toNat * 16777216))) 4294967295
    ∧ (isCycle b = true ↔ byteAt b 0 = 0xA5#8)
    ∧ (cycleShape b = true ↔
        byteAt b 0 = 0xA5#8 ∧ 1 ≤ slots ∧ slots ≤ 32 ∧ b.length = 16 * slots + 6)
    ∧ (serviceShape b = true ↔ byteAt b 0 = 0x5A#8 ∧ b.length = 140)
    ∧ (frameValid b = true ↔ 4 ≤ b.length
        ∧ beBytes 4 (crc32 (b.take (b.length - 4))) = b.drop (b.length - 4)
        ∧ ((byteAt b 0 = 0xA5#8 ∧ 1 ≤ slots ∧ slots ≤ 32 ∧ b.length = 16 * slots + 6)
          ∨ (byteAt b 0 = 0x5A#8 ∧ b.length = 140))))
  ∧ ∀ (b : List Byte) (s : State), s.addressed = true →
    (frameValid b = true → isCycle b = true →
      exec (.validFrame b) s =
        .next { s with
          link := { s.link with frame := b, timer := some s.job.station.ringTimeout, linkDown := false,
                                linkDownBefore := s.link.linkDown }
          stk := { s.stk with lanes := s.stk.lanes.map fun l =>
            { l with timer := l.timer.map fun t => { t with count := t.count + 1 } } } })
    ∧ (frameValid b = true → isCycle b = false →
      exec (.validFrame b) s =
        .next { s with
          link := { s.link with frame := b, timer := some s.job.station.ringTimeout, linkDown := false,
                                linkDownBefore := s.link.linkDown } })
    ∧ (frameValid b = false →
      exec (.badFrame b) s =
        .next { s with link := { s.link with frame := b, badFrames := satInc s.link.badFrames } })

/-- A part is addressed with an address from 1 to 62. An unaddressed part forwards every valid and every bad frame
unchanged and takes nothing else from it; and while its timers stand, every other command but POWER_ON_RESET leaves
it as it is (R171; log entry 24). The frame as it leaves stands in a field of the model's choice (log entry 2). -/
def Obligations.UnaddressedPartOnlyForwards : Prop :=
  (∀ s : State, s.addressed = true ↔ 1 ≤ s.link.node.toNat ∧ s.link.node.toNat ≤ 62)
  ∧ ∀ s : State, s.addressed = false →
    (∀ b, exec (.validFrame b) s = .next { s with link := { s.link with frame := b } }
      ∧ exec (.badFrame b) s = .next { s with link := { s.link with frame := b } })
    ∧ (s.link.timer = none → (∀ k : Fin 8, (s.lane k).timer = none) →
      ∀ c : Instr, (∀ straps, c ≠ .powerOnReset straps) → (∀ b, c ≠ .validFrame b ∧ c ≠ .badFrame b) →
        exec c s = .next s)

/-- A service frame into which a response is written, and a cycle frame into which a slot is written, stay
valid, carry the bytes written, the response code as Table 11-12 gives it, and change in no other byte but the CRC.
An answer is written with the response bytes not filled 0, and a filled slot with its sixteen bytes (R169 step 4,
R174, R179 to R181). What was written last stands in fields of the model's choice, and a frame of another shape is
left as it is (log entries 2 and 21). -/
def Obligations.AlteredFramesStayValid : Prop :=
  let number : RespCode → Byte
    | .ok => 0x00#8
    | .noTable => 0x01#8
    | .badIndex => 0x02#8
    | .badAlign => 0x03#8
    | .badValue => 0x04#8
    | .badLength => 0x05#8
    | .wrongState => 0x06#8
    | .badJob => 0x07#8
    | .badLane => 0x08#8
  (∀ (s : State) (code : RespCode) (data slot : List Byte) (place : Nat),
    let r : Response := { code, data := data.take 64 ++ List.replicate (64 - data.length) 0#8 }
    s.answer code data
        = { s with link := { s.link with response := some r, frame := writeResponse r s.link.frame } }
      ∧ s.reply code = s.answer code []
      ∧ s.fillSlot place slot
        = { s with link := { s.link with slotOut := some slot, frame := writeSlot place slot s.link.frame } })
  ∧ (∀ (r : Response) (place : Nat) (slot b : List Byte),
    (serviceShape b = false → writeResponse r b = b)
      ∧ ((cycleShape b = false ∨ (byteAt b 1).toNat ≤ place) → writeSlot place slot b = b))
  ∧ (∀ (code : RespCode) (data b : List Byte), data.length = 64 → serviceShape b = true →
    let f := writeResponse { code, data } b
    frameValid f = true ∧ f.length = b.length ∧ byteAt f 7 = number code
      ∧ slice 72 64 f = data
      ∧ ∀ i, i < 72 → i ≠ 7 → byteAt f i = byteAt b i)
  ∧ ∀ (place : Nat) (slot b : List Byte), slot.length = 16 → cycleShape b = true →
    place < (byteAt b 1).toNat →
    let f := writeSlot place slot b
    frameValid f = true ∧ f.length = b.length ∧ slice (2 + 16 * place) 16 f = slot
      ∧ ∀ i, i < 2 + 16 * (byteAt b 1).toNat → (i < 2 + 16 * place ∨ 18 + 16 * place ≤ i) →
          byteAt f i = byteAt b i

/-- Every kind of slot is read as Table 11-3 lays it out, and every service request as Tables 11-2, 11-10 and
11-11 do (R170, R174, R175, R180, R181); `rest` is what a slot holds beyond its named bytes, and what follows
the request data area. Fields of several bytes carry the most significant first, and signed ones two's complement
(11.1). -/
def Obligations.SlotsAndRequestsAreRead : Prop :=
  (∀ v : Nat, beBytes 1 v = [BitVec.ofNat 8 v]
    ∧ beBytes 2 v = [BitVec.ofNat 8 (v / 256), BitVec.ofNat 8 v]
    ∧ beBytes 4 v = [BitVec.ofNat 8 (v / 16777216), BitVec.ofNat 8 (v / 65536), BitVec.ofNat 8 (v / 256),
        BitVec.ofNat 8 v])
  ∧ (∀ v : Int, intBytes 2 v = beBytes 2 (v % 65536).toNat
    ∧ intBytes 4 v = beBytes 4 (v % 4294967296).toNat)
  ∧ (∀ (node : BitVec 6) (place : Nat) (n a b c d : Byte) (p : Word) (h : Half) (rest : List Byte),
    slotCommand node place ([0x00#8, n] ++ rest)
        = (if n.toNat = node.toNat then some (.ownEmptySlotOffer (BitVec.ofNat 5 place)) else none)
    ∧ slotCommand node place ([0x01#8, n] ++ beBytes 4 p.toNat ++ rest) = some (.webpos p)
    ∧ slotCommand node place ([0x02#8, n, a, b] ++ beBytes 4 p.toNat ++ rest) = some (.markev a b p)
    ∧ slotCommand node place ([0x03#8, n, a, b] ++ beBytes 4 p.toNat ++ beBytes 2 h.toNat ++ rest)
        = some (.inspect a b p h)
    ∧ slotCommand node place ([0x04#8, n] ++ beBytes 4 p.toNat ++ rest) = some (.splice p)
    ∧ slotCommand node place ([0x05#8, n] ++ rest) = some .webbreak
    ∧ slotCommand node place ([0x06#8, n, a] ++ beBytes 2 h.toNat ++ rest) = some (.cutmeas a h)
    ∧ slotCommand node place ([0x07#8, n, a] ++ beBytes 2 h.toNat ++ rest) = some (.stkready a h)
    ∧ slotCommand node place ([0x08#8, n, a] ++ rest) = some (.stkfault a)
    ∧ (9 ≤ d.toNat → slotCommand node place ([d, c] ++ rest) = none))
  ∧ ∀ (dest table code : Byte) (index : Half) (count : Byte) (data rest : List Byte), data.length = 64 →
    let request (kind : Byte) :=
      requestCommand ([0x5A#8, dest, kind, table] ++ beBytes 2 index.toNat ++ [count, code] ++ data ++ rest)
    request 0x01#8 = .read table index count
    ∧ (table = 1#8 → request 0x02#8 = .writeJob index count data)
    ∧ (table = 2#8 → request 0x02#8 = .writeStation index count data)
    ∧ (table = 3#8 → request 0x02#8 = .writeLoop index count data)
    ∧ (table = 4#8 → request 0x02#8 = .writeSensor index count data)
    ∧ (table = 5#8 → request 0x02#8 = .writeLane index count data)
    ∧ (table = 6#8 → request 0x02#8 = .writeDisp index count data)
    ∧ (table = 7#8 → request 0x02#8 = .writeOverride index count data)
    ∧ (table = 8#8 → request 0x02#8 = .writeSched index count data)
    ∧ ((table.toNat = 0 ∨ 8 < table.toNat) → request 0x02#8 = .writeNoTable table index count data)
    ∧ request 0x03#8 = .readStatus
    ∧ request 0x04#8 = .readCounters (byteAt data 0) (byteAt data 1)
    ∧ request 0x05#8 = .ackAlarms
    ∧ request 0x06#8 = .laneEnable (byteAt data 0)
    ∧ request 0x07#8 = .closeStack (byteAt data 0)
    ∧ request 0x10#8 = .arm ∧ request 0x11#8 = .start ∧ request 0x12#8 = .endJob
    ∧ request 0x13#8 = .halt ∧ request 0x14#8 = .resume ∧ request 0x15#8 = .clear
    ∧ request 0x1F#8 = .softReset
    ∧ ∀ kind : Byte, kind ∉ [0x01#8, 0x02#8, 0x03#8, 0x04#8, 0x05#8, 0x06#8, 0x07#8, 0x10#8, 0x11#8, 0x12#8,
        0x13#8, 0x14#8, 0x15#8, 0x1F#8] → request kind = .unknownRequestKind kind

/-- The commands that a raw frame brings are well formed. A bad frame brings its rejection alone; a valid one its
acceptance first, and then, at an addressed part, a cycle frame brings the change timers' expiries and behind them,
in slot order, one command for each slot that is delivered or is an EMPTY slot of the part's own, and a service
frame addressed to the part its request (R169, R170, R174). That the expiries stand between the frame and its
slots, in lane order, is the model's (log entries 3, 4 and 26). -/
def Obligations.FramesBringWellFormedCommands : Prop :=
  ∀ (node : BitVec 6) (b : List Byte),
    let inUse : Bool := decide (1 ≤ node.toNat ∧ node.toNat ≤ 62)
    (∀ c ∈ commandsOf node b, WellFormed c = true)
      ∧ (frameValid b = false → commandsOf node b = [.badFrame b])
      ∧ (frameValid b = true → inUse = false → commandsOf node b = [.validFrame b])
      ∧ (frameValid b = true → inUse = true → isCycle b = true →
        commandsOf node b = .validFrame b ::
          (([0, 1, 2, 3, 4, 5, 6, 7] : List (Fin 8)).map .changeTimerExpiry
            ++ (List.range (byteAt b 1).toNat).filterMap fun i =>
              slotCommand node i (slice (2 + 16 * i) 16 b)))
      ∧ (frameValid b = true → inUse = true → isCycle b = false →
        commandsOf node b = .validFrame b ::
          if (byteAt b 1).toNat = node.toNat then [requestCommand b] else [])

/-! ## The tables -/

/-- Every table entry within its ranges, written out as a READ returns it, is read back by a WRITE as it stood. A
WRITE reads no entry outside its ranges, and the entry it reads, written out again, gives the bytes it came from:
no field is altered, and no flag byte, code byte or reserved DISP bit but those that a READ returns is taken. Only the
bytes that a WRITE does not read, 45 to 47 of STATION and 11 of OVERRIDE, are returned as 0 (R175, R181, Tables 1-8,
5-2, 7-2, 9-4, 11-4 and 11-6). -/
def Obligations.TableEntriesReadBack : Prop :=
  (∀ r : JobRec, r.InRange → JobRec.parse r.bytes = some r ∧ r.bytes.length = 24)
    ∧ (∀ r : StationRec, r.InRange → StationRec.parse r.bytes = some r ∧ r.bytes.length = 48)
    ∧ (∀ r : LoopRec, r.InRange → LoopRec.parse r.bytes = some r ∧ r.bytes.length = 12)
    ∧ (∀ r : LaneCfg, r.InRange → LaneCfg.parse r.bytes = some r ∧ r.bytes.length = 12)
    ∧ (∀ e : SchedEntry, e.InRange → SchedEntry.parse e.bytes = some e ∧ e.bytes.length = 2)
    ∧ (∀ e : OverrideEntry, OverrideEntry.parse e.bytes = some e ∧ e.bytes.length = 12)
    ∧ (∀ e : DispEntry, DispEntry.parse e.bytes = some e ∧ e.bytes.length = 1)
    ∧ (∀ e : Edge, Edge.parse [e.byte] = some e)
    ∧ Edge.leading.byte = 0#8 ∧ Edge.trailing.byte = 1#8
    ∧ (∀ b r, JobRec.parse b = some r → r.InRange ∧ (b.length = 24 → r.bytes = b))
    ∧ (∀ b r, StationRec.parse b = some r →
        r.InRange ∧ (b.length = 48 → r.bytes = b.take 45 ++ [0#8, 0#8, 0#8]))
    ∧ (∀ b r, LoopRec.parse b = some r → r.InRange ∧ (b.length = 12 → r.bytes = b))
    ∧ (∀ b r, LaneCfg.parse b = some r → r.InRange ∧ (b.length = 12 → r.bytes = b))
    ∧ (∀ b e, SchedEntry.parse b = some e → e.InRange ∧ (b.length = 2 → e.bytes = b))
    ∧ (∀ b e, OverrideEntry.parse b = some e → b.length = 12 → e.bytes = b.take 11 ++ [0#8])
    ∧ (∀ b e, DispEntry.parse b = some e → b.length = 1 → e.bytes = b)
    ∧ (∀ b e, Edge.parse b = some e → b.length = 1 → [e.byte] = b)

/-- READ completes with the first failing test's code, or with the entries named: of JOB, STATION, LOOP, SENSOR,
LANE, DISP, OVERRIDE and SCHED, which hold 1, 1, 1, 2, 8, 128, 32 and 3 entries of 24, 48, 12, 1, 12, 1, 12 and 2
bytes, each entry as Tables 11-4 and 11-6 lay it out (R175, R181, Table 11-5). -/
def Obligations.ReadReturnsEntries : Prop :=
  (∀ s : State,
    let j := s.job.job
    let t := s.job.station
    let l := s.job.loop
    let flag (b : Bool) : Byte := if b then 1#8 else 0#8
    s.tableEntries 1#8 = some (24,
      [beBytes 1 j.lanes ++ beBytes 2 j.pitch ++ beBytes 1 j.cycle ++ beBytes 2 j.m2c ++ beBytes 2 j.window
        ++ beBytes 1 j.missingLimit ++ beBytes 1 j.depth ++ beBytes 4 j.lowThreshold
        ++ beBytes 4 j.highThreshold ++ [flag j.windowMode, flag (j.policy == .reject)]
        ++ beBytes 2 j.marginBefore ++ beBytes 2 j.marginAfter])
    ∧ s.tableEntries 2#8 = some (48,
      [intBytes 4 t.dC ++ intBytes 4 t.dU ++ beBytes 4 t.dK ++ beBytes 4 t.dX ++ beBytes 4 t.dG
        ++ beBytes 4 t.dS ++ beBytes 4 t.knifeHorizon ++ beBytes 4 t.knifeLead ++ beBytes 4 t.gateHorizon
        ++ beBytes 4 t.gateLead ++ beBytes 2 t.reverseTolerance ++ beBytes 1 t.knifeNode
        ++ beBytes 1 t.gateNode ++ beBytes 1 t.ringTimeout ++ [0#8, 0#8, 0#8]])
    ∧ s.tableEntries 3#8 = some (12,
      [beBytes 2 l.kp ++ beBytes 2 l.ki ++ beBytes 2 l.limit ++ beBytes 2 l.maxStep
        ++ beBytes 2 l.lockTolerance ++ beBytes 2 l.unlockTolerance])
    ∧ s.tableEntries 4#8 = some (1, (List.finRange 2).map fun i => [flag (s.reg.edges[i.val] == .trailing)])
    ∧ s.tableEntries 5#8 = some (12, (List.finRange 8).map fun i =>
      let r := s.stk.cfg[i.val]
      [flag r.enabled] ++ beBytes 1 r.node ++ beBytes 2 r.target ++ beBytes 1 r.changeGap
        ++ beBytes 1 r.holdLimit ++ beBytes 2 r.timeout ++ beBytes 2 r.gatePre ++ beBytes 2 r.gatePost)
    ∧ s.tableEntries 6#8 = some (1, (List.finRange 128).map fun i =>
      let e := s.disp.disp[i.val]
      [BitVec.ofNat 8 ((if e.valid then 128 else 0) + match e.action with
        | .waste => 0
        | .stack => 1
        | .follow => 2)])
    ∧ s.tableEntries 7#8 = some (12, (List.finRange 32).map fun i =>
      let e := s.disp.overrides[i.val]
      [flag e.valid, flag (e.action == .forceAccept)] ++ beBytes 4 e.first.toNat ++ beBytes 4 e.last.toNat
        ++ [e.lanes, 0#8])
    ∧ s.tableEntries 8#8 = some (2, (List.finRange 3).map fun i =>
      let e := s.sched.table[i.val]
      [flag (e.mode == .ratio)] ++ beBytes 1 e.weight)
    ∧ ∀ table : Byte, (table.toNat = 0 ∨ 8 < table.toNat) → s.tableEntries table = none)
  ∧ ∀ (table : Byte) (index : Half) (count : Byte) (s : State), s.addressed = true →
    ((table.toNat = 0 ∨ 8 < table.toNat) → exec (.read table index count) s = .next (s.reply .noTable))
    ∧ ∀ size entries, s.tableEntries table = some (size, entries) →
      ((count.toNat = 0 ∨ 8 < count.toNat ∨ 64 < count.toNat * size) →
        exec (.read table index count) s = .next (s.reply .badLength))
      ∧ (1 ≤ count.toNat → count.toNat ≤ 8 → count.toNat * size ≤ 64 →
          entries.length < index.toNat + count.toNat →
          exec (.read table index count) s = .next (s.reply .badIndex))
      ∧ (1 ≤ count.toNat → count.toNat ≤ 8 → count.toNat * size ≤ 64 →
          index.toNat + count.toNat ≤ entries.length →
          exec (.read table index count) s
            = .next (s.answer .ok ((entries.drop index.toNat).take count.toNat).flatten))

/-- A WRITE of JOB or STATION in CONFIG, and of LOOP, completes: the whole record is replaced, and a LOOP write
clamps the loop state (R4, R157, R81 to R83, R175). -/
def Obligations.SingleWritesReplaceTheRecord : Prop :=
  ∀ (data : List Byte) (s : State), s.addressed = true →
    (∀ r, s.job.state = .config → JobRec.parse (slice 0 24 data) = some r →
      exec (.writeJob 0#16 1#8 data) s = .next (({ s with job := { s.job with job := r } } : State).reply .ok))
    ∧ (∀ r, s.job.state = .config → StationRec.parse (slice 0 48 data) = some r →
      exec (.writeStation 0#16 1#8 data) s
        = .next (({ s with job := { s.job with station := r } } : State).reply .ok))
    ∧ ∀ r, LoopRec.parse (slice 0 12 data) = some r →
      (s.job.state ≠ .config → r.limit ≤ s.job.validated) →
      exec (.writeLoop 0#16 1#8 data) s
        = .next (({ s with
            job := { s.job with loop := r }
            cut := { s.cut with
              target := clamp s.cut.target (-(r.limit : Int)) r.limit
              applied := clamp s.cut.applied (-(r.limit : Int)) r.limit
              integral := clamp s.cut.integral (-(r.limit * 256 : Int)) (r.limit * 256)
              ramp := min s.cut.ramp r.maxStep } } : State).reply .ok)

/-- A WRITE of SENSOR in CONFIG, of DISP in CONFIG or ARMED, and of LANE, OVERRIDE or SCHED completes: the
entries named take the values carried, in index order, every other entry stays, and a SCHED write reloads the
credits (R17, R102, R103, R119, R148, R149, R175, R181). -/
def Obligations.TableWritesReplaceTheEntries : Prop :=
  ∀ (index : Half) (count : Byte) (data : List Byte) (s : State), s.addressed = true → 1 ≤ count.toNat →
    (s.job.state = .config → index.toNat + count.toNat ≤ 2 →
      (∀ i, i < count.toNat → (Edge.parse (slice i 1 data)).isSome = true) →
      ∃ v, exec (.writeSensor index count data) s
          = .next (({ s with reg := { s.reg with edges := v } } : State).reply .ok)
        ∧ ∀ i : Fin 2, if index.toNat ≤ i.val ∧ i.val < index.toNat + count.toNat
            then Edge.parse (slice (i.val - index.toNat) 1 data) = some v[i.val]
            else v[i.val] = s.reg.edges[i.val])
    ∧ (index.toNat + count.toNat ≤ 8 → count.toNat * 12 ≤ 64 →
      (∀ i, i < count.toNat → (LaneCfg.parse (slice (i * 12) 12 data)).isSome = true) →
      ∃ v, exec (.writeLane index count data) s
          = .next (({ s with stk := { s.stk with cfg := v } } : State).reply .ok)
        ∧ ∀ i : Fin 8, if index.toNat ≤ i.val ∧ i.val < index.toNat + count.toNat
            then LaneCfg.parse (slice ((i.val - index.toNat) * 12) 12 data) = some v[i.val]
            else v[i.val] = s.stk.cfg[i.val])
    ∧ ((s.job.state = .config ∨ s.job.state = .armed) → index.toNat % 4 = 0 →
      (count = 4#8 ∨ count = 8#8) → index.toNat + count.toNat ≤ 128 →
      (∀ i, i < count.toNat → (DispEntry.parse (slice i 1 data)).isSome = true) →
      ∃ v, exec (.writeDisp index count data) s
          = .next (({ s with disp := { s.disp with disp := v } } : State).reply .ok)
        ∧ ∀ i : Fin 128, if index.toNat ≤ i.val ∧ i.val < index.toNat + count.toNat
            then DispEntry.parse (slice (i.val - index.toNat) 1 data) = some v[i.val]
            else v[i.val] = s.disp.disp[i.val])
    ∧ (index.toNat + count.toNat ≤ 32 → count.toNat * 12 ≤ 64 →
      (∀ i, i < count.toNat → (OverrideEntry.parse (slice (i * 12) 12 data)).isSome = true) →
      ∃ v, exec (.writeOverride index count data) s
          = .next (({ s with disp := { s.disp with overrides := v } } : State).reply .ok)
        ∧ ∀ i : Fin 32, if index.toNat ≤ i.val ∧ i.val < index.toNat + count.toNat
            then OverrideEntry.parse (slice ((i.val - index.toNat) * 12) 12 data) = some v[i.val]
            else v[i.val] = s.disp.overrides[i.val])
    ∧ (index.toNat + count.toNat ≤ 3 →
      (∀ i, i < count.toNat → (SchedEntry.parse (slice (i * 2) 2 data)).isSome = true) →
      ∃ v : Vector SchedEntry 3, exec (.writeSched index count data) s
          = .next (({ s with sched := { s.sched with
              table := v
              gateCredit := if v[0].mode = .ratio then v[0].weight else 0
              stackCredit := if v[1].mode = .ratio then v[1].weight else 0
              noticeCredit := if v[2].mode = .ratio then v[2].weight else 0 } } : State).reply .ok)
        ∧ ∀ i : Fin 3, if index.toNat ≤ i.val ∧ i.val < index.toNat + count.toNat
            then SchedEntry.parse (slice ((i.val - index.toNat) * 2) 2 data) = some v[i.val]
            else v[i.val] = s.sched.table[i.val])

/-- A WRITE that fails a test of R175 is refused with the code of the first that fails, in their order, and
changes nothing; an identifier that names no table gives NO_TABLE, and a request kind that is not named gives
BAD_VALUE (R174, R175, R102, R82). -/
def Obligations.WritesRefusedInOrder : Prop :=
  ∀ (table : Byte) (index : Half) (count : Byte) (data : List Byte) (s : State), s.addressed = true →
    let request : Instr := match table.toNat with
      | 1 => .writeJob index count data
      | 2 => .writeStation index count data
      | 3 => .writeLoop index count data
      | 4 => .writeSensor index count data
      | 5 => .writeLane index count data
      | 6 => .writeDisp index count data
      | 7 => .writeOverride index count data
      | 8 => .writeSched index count data
      | _ => .writeNoTable table index count data
    (∀ size entries, s.tableEntries table = some (size, entries) →
      (s.writable table = false →
        exec request s = .next (s.reply .wrongState))
      ∧ (s.writable table = true → dispMisaligned table index count = true →
        exec request s = .next (s.reply .badAlign))
      ∧ (s.writable table = true → dispMisaligned table index count = false →
        (count.toNat = 0 ∨ 64 < count.toNat * size) →
        exec request s = .next (s.reply .badLength))
      ∧ (s.writable table = true → dispMisaligned table index count = false →
        1 ≤ count.toNat → count.toNat * size ≤ 64 → entries.length < index.toNat + count.toNat →
        exec request s = .next (s.reply .badIndex))
      ∧ (s.writable table = true → dispMisaligned table index count = false →
        1 ≤ count.toNat → count.toNat * size ≤ 64 → index.toNat + count.toNat ≤ entries.length →
        (∃ i, i < count.toNat ∧ s.entryTaken table (slice (i * size) size data) = false) →
        exec request s = .next (s.reply .badValue)))
    ∧ ((table.toNat = 0 ∨ 8 < table.toNat) →
      exec (.writeNoTable table index count data) s = .next (s.reply .noTable))
    ∧ ∀ kind : Byte, kind ∉ [0x01#8, 0x02#8, 0x03#8, 0x04#8, 0x05#8, 0x06#8, 0x07#8, 0x10#8, 0x11#8, 0x12#8,
        0x13#8, 0x14#8, 0x15#8, 0x1F#8] →
      exec (.unknownRequestKind kind) s = .next (s.reply .badValue)

/-- READ_STATUS completes: the response is the 49 bytes of the status record, laid out as Table 11-8 says
with the codes of Table 11-14, and nothing else changes (R176, R79, R86; the link-down field by log entry 17). -/
def Obligations.StatusRecordLayout : Prop :=
  let jobState : JobState → Nat
    | .config => 0
    | .armed => 1
    | .run => 2
    | .ending => 3
    | .hold => 4
  let holdCause : HoldCause → Nat
    | .none => 0
    | .halt => 1
    | .webBreak => 2
    | .linkLoss => 3
    | .reverse => 4
    | .jump => 5
    | .queueFull => 6
  let regState : RegState → Nat
    | .free => 0
    | .acquire => 1
    | .locked => 2
  let stacker : StackerState → Nat
    | .ready => 0
    | .fault => 1
  let faultCause : FaultCause → Nat
    | .none => 0
    | .holdOverrun => 1
    | .timeout => 2
    | .node => 3
  (∀ (b : List Byte) (i : Nat), fieldAt b i 1 = (byteAt b i).toNat
    ∧ fieldAt b i 2 = (byteAt b i).toNat * 256 + (byteAt b (i + 1)).toNat
    ∧ fieldAt b i 4 = (byteAt b i).toNat * 16777216 + (byteAt b (i + 1)).toNat * 65536
        + (byteAt b (i + 2)).toNat * 256 + (byteAt b (i + 3)).toNat)
  ∧ ∀ s : State, s.addressed = true → ∃ b : List Byte, exec .readStatus s = .next (s.answer .ok b)
    ∧ b.length = 49
    ∧ fieldAt b 0 1 = s.link.node.toNat
    ∧ fieldAt b 1 1 = jobState s.job.state ∧ fieldAt b 2 1 = holdCause s.job.cause
    ∧ fieldAt b 3 1 = regState s.reg.state
    ∧ fieldAt b 4 4 = (BitVec.ofInt 32 s.pitchEstimate).toNat
    ∧ fieldAt b 8 1 = (if s.reg.pitchLow then 1 else 0) + (if s.reg.pitchHigh then 2 else 0)
    ∧ fieldAt b 9 1 = (if s.link.linkDownBefore then 1 else 0)
    ∧ fieldAt b 10 2 = (BitVec.ofInt 16 s.cut.target).toNat
    ∧ fieldAt b 12 2 = (BitVec.ofInt 16 s.cut.applied).toNat
    ∧ fieldAt b 14 4 = s.track.pos.toNat
    ∧ fieldAt b 18 2 = s.track.queue.length % 65536
    ∧ fieldAt b 20 1 = s.track.zones.length % 256
    ∧ fieldAt b 21 1 = s.sched.knife.length % 256 ∧ fieldAt b 22 1 = s.sched.gate.length % 256
    ∧ fieldAt b 23 1 = s.sched.stack.length % 256 ∧ fieldAt b 24 1 = s.sched.notices.length % 256
    ∧ ∀ k : Fin 8, fieldAt b (25 + 3 * k.val) 1 = stacker (s.lane k).state
        ∧ fieldAt b (26 + 3 * k.val) 1 = faultCause (s.lane k).cause
        ∧ fieldAt b (27 + 3 * k.val) 1 = (s.lane k).list.length % 256

/-- READ_COUNTERS completes: the set named is returned as it stands, and set to 0 if the clear flag is set; no
other set changes; a lane above 7 is refused (R177, R110, R181). -/
def Obligations.CountersReadAndCleared : Prop :=
  ∀ (selector clear : Byte) (s : State), s.addressed = true →
    let bytes (counters : List Word) : List Byte := counters.flatMap fun c => beBytes 4 c.toNat
    (selector = 0xFF#8 →
      let t := s.answer .ok (bytes
        [s.link.badFrames, s.track.posHeld, s.reg.seekSkip, s.reg.stray, s.reg.designSlip, s.track.stale,
         s.track.zoneMerge, s.cut.strayMeas, s.cut.lateCut, s.stk.strayReady, s.sched.noticesDropped])
      (clear = 0#8 → exec (.readCounters selector clear) s = .next t)
      ∧ (clear ≠ 0#8 → exec (.readCounters selector clear) s = .next
          { t with
            link := { t.link with badFrames := 0#32 }
            track := { t.track with posHeld := 0#32, stale := 0#32, zoneMerge := 0#32 }
            reg := { t.reg with seekSkip := 0#32, stray := 0#32, designSlip := 0#32 }
            cut := { t.cut with strayMeas := 0#32, lateCut := 0#32 }
            stk := { t.stk with strayReady := 0#32 }
            sched := { t.sched with noticesDropped := 0#32 } }))
    ∧ (∀ k : Fin 8, selector.toNat = k.val →
      let c := s.disp.counters[k.val]
      let z : LaneCounters := { stacked := 0#32, rejected := 0#32, wasted := 0#32, gap := 0#32,
                                diverted := 0#32, lost := 0#32, lateInfo := 0#32, lateGate := 0#32 }
      let t := s.answer .ok (bytes
        [c.stacked, c.rejected, c.wasted, c.gap, c.diverted, c.lost, c.lateInfo, c.lateGate])
      (clear = 0#8 → exec (.readCounters selector clear) s = .next t)
      ∧ (clear ≠ 0#8 → exec (.readCounters selector clear) s = .next
          { t with disp := { t.disp with counters := t.disp.counters.set k.val z } }))
    ∧ (8 ≤ selector.toNat → selector ≠ 0xFF#8 →
      exec (.readCounters selector clear) s = .next (s.reply .badLane))

/-! ## The tracked position -/

/-- WEBPOS in CONFIG, ARMED and HOLD sets P and nothing else; in RUN and ENDING a report equal to P changes
nothing, and a large reverse or a jump sets P and enters HOLD with its cause (R10, R13, R14). Positions are compared
and shifted modulo 2^32 (R1, R2). -/
def Obligations.ReportsSetOrFaultThePosition : Prop :=
  (∀ (a b : Word) (d : Int),
    (atOrBeyond a b = true ↔ (a - b).toNat < 2147483648) ∧ (beyond a b = true ↔ atOrBeyond a b = true ∧ a ≠ b)
    ∧ (behind a b = true ↔ atOrBeyond a b = false) ∧ diff a b = (a - b).toInt
    ∧ ((shift a d).toNat : Int) = ((a.toNat : Int) + d) % 4294967296)
  ∧ (∀ s : State, s.running = true ↔ s.job.state = .run ∨ s.job.state = .ending)
  ∧ ∀ (reported : Word) (s : State), s.addressed = true →
    (s.running = false → exec (.webpos reported) s = .next { s with track := { s.track with pos := reported } })
    ∧ (s.running = true →
      (reported = s.track.pos → exec (.webpos reported) s = .next s)
      ∧ (65535 < diff reported s.track.pos → exec (.webpos reported) s
          = .next (({ s with track := { s.track with pos := reported } } : State).enterHold .jump))
      ∧ (diff reported s.track.pos < -(s.job.station.reverseTolerance : Int) →
          exec (.webpos reported) s
            = .next (({ s with track := { s.track with pos := reported } } : State).enterHold .reverse)))

/-- A small reverse leaves P unchanged and counts POS_HELD, and changes no other state (R12). -/
def Obligations.SmallReverseIsHeld : Prop :=
  ∀ (reported : Word) (s : State), s.addressed = true → s.running = true →
    diff reported s.track.pos ≤ -1 →
    -(s.job.station.reverseTolerance : Int) ≤ diff reported s.track.pos →
    exec (.webpos reported) s
      = .next { s with track := { s.track with posHeld := satInc s.track.posHeld } }

/-- An advance sets P, makes the predictions that it makes due, one after another until none is left and none
besides, and then takes the sweeps, unless a full queue has entered HOLD on the way; P takes no other value, and the
link port, the tables, the integral and the target stay. The sweeps take the records that stand then, each from the
oldest to the youngest: first the knife sweep, with the cut-due transition, the lateness and the check expiry of
each, then the disposition sweep, with its commit and its arrival. A QUEUED record is late beyond its cut web
position - knife lead and leaves the KNIFE queue; a SENT and UNCHECKED one expires at its expiry point; a record
commits when it is uncommitted, every older one is committed, its label end exists and its commit point is reached;
the oldest, once committed, arrives at its label end + dS; and no other record makes these transitions (R11, R27,
R29, R42, R48, R49, R52, R55, R56, R58). -/
def Obligations.AdvanceTakesWhatIsDue : Prop :=
  (∀ (reported : Word) (s : State), s.addressed = true → s.running = true →
    1 ≤ diff reported s.track.pos → diff reported s.track.pos ≤ 65535 →
    ∃ u t, u = ({ s with track := { s.track with pos := reported } } : State).predictAll
      ∧ u.predictOne = none
      ∧ exec (.webpos reported) s = .next t
      ∧ (u.running = true → t = u.sweeps) ∧ (u.running = false → t = u)
      ∧ t.track.pos = reported ∧ t.track.posHeld = s.track.posHeld ∧ t.link = s.link
      ∧ t.job.job = s.job.job ∧ t.job.station = s.job.station ∧ t.job.loop = s.job.loop
      ∧ t.reg.edges = s.reg.edges ∧ t.disp.disp = s.disp.disp ∧ t.disp.overrides = s.disp.overrides
      ∧ t.stk.cfg = s.stk.cfg ∧ t.sched.table = s.sched.table ∧ t.cut.integral = s.cut.integral
      ∧ t.cut.target = s.cut.target)
  ∧ (∀ s : State, (s.predictOne = none → s.predictAll = s)
    ∧ ∀ t, s.predictOne = some t → s.predictAll = t.predictAll)
  ∧ (∀ s : State,
    let serials := s.track.queue.map (·.serial)
    let knife (v : State) (n : Word) : State :=
      ((v.withRecord n State.cutTransition).withRecord n State.lateTransition).withRecord n
        State.expiryTransition
    let disposition (v : State) (n : Word) : State := (v.commitStep n).arrivalStep n
    s.sweeps = serials.foldl disposition (serials.foldl knife s))
  ∧ (∀ (s : State) (n : Word), (∀ x ∈ s.track.queue, x.serial ≠ n) →
    (∀ f, s.withRecord n f = s) ∧ s.commitStep n = s ∧ s.arrivalStep n = s)
  ∧ ∀ (s : State) (older younger : List Record) (r : Record), s.SerialsApart →
    s.track.queue = older ++ r :: younger →
    let now (x : Record) : State := { s with track := { s.track with queue := older ++ x :: younger } }
    let late (line : Word) : Bool := beyond s.track.pos
      (shift (shift line s.job.station.dK) (-(s.job.station.knifeLead : Int)))
    let expired (line : Word) : Bool := atOrBeyond s.track.pos (shift (shift line s.job.station.dK)
      ((s.job.station.dX : Int) - s.job.station.dK + (s.job.job.pitch / 2 : Nat)))
    let commits (line : Word) : Bool := atOrBeyond s.track.pos
      (shift line ((s.job.station.dG : Int) - s.job.station.gateHorizon))
    let arrives (stop : Word) : Bool := atOrBeyond s.track.pos (shift stop s.job.station.dS)
    let labelEnd : Option Word :=
      if r.tail = true then r.cutLine.map (shift · s.job.job.pitch)
      else
        match younger with
        | [] => none
        | n :: _ => if n.cut = .pending then none else n.cutLine
    (∀ f, s.withRecord r.serial f = f r s)
    ∧ (∀ line, r.cut = .queued → r.cutLine = some line → late line = true →
      s.lateTransition r = ({ now { r with cut := .late, check := .noCheck } with
        sched := { s.sched with knife := s.sched.knife.filter (·.serial != r.serial) } } : State).lateCutEffects
          r.serial)
    ∧ ((r.cut ≠ .queued ∨ r.cutLine.any late = false) → s.lateTransition r = s)
    ∧ (∀ line, r.cut = .sent → r.check = .unchecked → r.cutLine = some line → expired line = true →
      s.expiryTransition r = now { r with check := .noCheck })
    ∧ ((r.cut ≠ .sent ∨ r.check ≠ .unchecked ∨ r.cutLine.any expired = false) → s.expiryTransition r = s)
    ∧ (∀ line stop, r.commit = .uncommitted → (∀ x ∈ older, x.commit = .committed) →
      r.cutLine = some line → labelEnd = some stop → commits line = true →
      s.commitStep r.serial = s.commit r line stop)
    ∧ ((r.commit = .committed ∨ (∃ x ∈ older, x.commit = .uncommitted) ∨ labelEnd = none
        ∨ r.cutLine.any commits = false) → s.commitStep r.serial = s)
    ∧ (∀ stop, older = [] → r.commit = .committed → labelEnd = some stop → arrives stop = true →
      s.arrivalStep r.serial = s.arrive r)
    ∧ ((older ≠ [] ∨ r.commit = .uncommitted ∨ labelEnd.any arrives = false) →
      s.arrivalStep r.serial = s)

/-! ## Registration -/

/-- The prediction that P makes due in RUN: in FREE a free record one repeat on; in ACQUIRE and LOCKED a predicted
record at the expected position, or, past the missing limit, a free one and the return to FREE with its REG_STATE
notice; and none where the prediction point is not passed, or in any job state but RUN. The record that was youngest
is closed at the nominal start of the new one, as closeRecord closes it. No prediction takes a pitch sample; a design
slip is counted and noticed (R20, R27, R29 to R31, R38, R40, R46, R47, R75). The order of REG_STATE and DESIGN_SLIP
is the model's (log entry 12). -/
def Obligations.PredictionCreatesTheRecord : Prop :=
  (∀ s : State, s.job.state ≠ .run → s.predictOne = none)
  ∧ ∀ s : State, s.job.state = .run → s.track.queue.length < 256 → s.NextSerialFree →
    let unsampled (t : State) : Prop := t.reg.estimate = s.reg.estimate ∧ t.reg.pitchLow = s.reg.pitchLow
      ∧ t.reg.pitchHigh = s.reg.pitchHigh
    (s.reg.state = .free →
      beyond s.track.pos (shift s.reg.lastAnchor ((s.job.job.pitch : Int) + s.job.job.window)) = true →
      ∃ t, s.predictOne = some t
        ∧ s.Appended t (shift s.reg.lastAnchor s.job.job.pitch) .free .free
        ∧ t.reg.state = .free ∧ t.reg.missing = s.reg.missing ∧ t.reg.samples = s.reg.samples
        ∧ unsampled t ∧ (s.SerialsApart → s.YoungestUncommitted → t.sched = s.withSlipNotice s.sched))
    ∧ (s.reg.state = .free →
      beyond s.track.pos (shift s.reg.lastAnchor ((s.job.job.pitch : Int) + s.job.job.window)) = false →
      s.predictOne = none)
    ∧ (s.reg.state ≠ .free →
      beyond s.track.pos (shift s.reg.lastAnchor (s.pitchEstimate + s.job.job.window)) = true →
      s.reg.missing + 1 ≤ s.job.job.missingLimit →
      ∃ t, s.predictOne = some t
        ∧ s.Appended t (shift s.reg.lastAnchor s.pitchEstimate) .predicted s.reg.state
        ∧ t.reg.state = s.reg.state ∧ t.reg.missing = s.reg.missing + 1
        ∧ t.reg.samples = s.reg.samples
        ∧ unsampled t ∧ (s.SerialsApart → s.YoungestUncommitted → t.sched = s.withSlipNotice s.sched))
    ∧ (s.reg.state ≠ .free →
      beyond s.track.pos (shift s.reg.lastAnchor (s.pitchEstimate + s.job.job.window)) = true →
      s.job.job.missingLimit < s.reg.missing + 1 →
      ∃ t, s.predictOne = some t
        ∧ s.Appended t (shift s.reg.lastAnchor s.pitchEstimate) .free .free
        ∧ t.reg.state = .free ∧ t.reg.missing = 0 ∧ t.reg.samples = []
        ∧ unsampled t
        ∧ (s.SerialsApart → s.YoungestUncommitted →
            t.sched = s.withSlipNotice (s.sched.notify .regState none 0#32)))
    ∧ (s.reg.state ≠ .free →
      beyond s.track.pos (shift s.reg.lastAnchor (s.pitchEstimate + s.job.job.window)) = false →
      s.predictOne = none)

/-- A registration mark of the selected edge in RUN, not far beyond P, in the seek interval or the acceptance
window, completes: a MARKED record of the state's class at the captured position, FREE to ACQUIRE with its
REG_STATE notice, and the missing-mark counter 0. The record that was youngest is closed at the nominal start of the
new one, as closeRecord closes it. A mark that follows a MARKED record gives a pitch sample, the difference of the two
anchors, and any other gives none; a design slip is counted and noticed (R18 to R20, R26, R28, R30, R31, R38, R46,
R47, R75). Both bounds belong to the interval (log entry 10), and the order of the notices is the
model's (log entry 12). -/
def Obligations.MarkCreatesTheRecord : Prop :=
  (∀ x lo hi : Word, fromThrough x lo hi = true ↔ atOrBeyond x lo = true ∧ atOrBeyond hi x = true)
  ∧ ∀ (captured : Word) (s : State), s.addressed = true → s.job.state = .run →
    s.track.queue.length < 256 → s.NextSerialFree →
    beyond captured (shift s.track.pos s.job.job.pitch) = false →
    let noticed : State := { s with sched := s.withSlipNotice s.sched }
    let sampled : State :=
      if s.reg.lastOrigin = some .marked then noticed.placeSample (diff captured s.reg.lastAnchor)
      else noticed
    let follows (t : State) : Prop := t.reg.samples = sampled.reg.samples
      ∧ t.reg.estimate = sampled.reg.estimate ∧ t.reg.pitchLow = sampled.reg.pitchLow
      ∧ t.reg.pitchHigh = sampled.reg.pitchHigh
    (s.reg.state = .free →
      fromThrough captured (shift s.reg.lastAnchor (s.job.job.pitch / 2 : Nat))
        (shift s.reg.lastAnchor ((s.job.job.pitch : Int) + s.job.job.window)) = true →
      ∃ t, exec (.markev 0#8 s.reg.edges[0].byte captured) s = .next t
        ∧ s.Appended t captured .marked .free ∧ t.reg.state = .acquire ∧ t.reg.missing = 0
        ∧ follows t
        ∧ (s.SerialsApart → s.YoungestUncommitted → t.sched = sampled.sched.notify .regState none 1#32))
    ∧ (s.reg.state ≠ .free →
      fromThrough captured (shift s.reg.lastAnchor (s.pitchEstimate - s.job.job.window))
        (shift s.reg.lastAnchor (s.pitchEstimate + s.job.job.window)) = true →
      ∃ t, exec (.markev 0#8 s.reg.edges[0].byte captured) s = .next t
        ∧ s.Appended t captured .marked s.reg.state ∧ t.reg.state = s.reg.state
        ∧ t.reg.missing = 0
        ∧ follows t ∧ (s.SerialsApart → s.YoungestUncommitted → t.sched = sampled.sched))

/-- A mark of another channel or edge, or in another job state, changes nothing; a registration mark far beyond
P or outside its interval counts SEEK_SKIP or STRAY and no more; a cycle mark sets the cycle-pending flag where
C is above 1; and a mark or prediction that finds 256 records enters HOLD with cause QUEUE_FULL and does nothing
else. A counter that stands at 4,294,967,295 stays there, and any other goes up by one (R18, R19, R26, R28, R37, R39,
R48). -/
def Obligations.OtherMarksAreFiltered : Prop :=
  (∀ c : Word, (c.toNat = 4294967295 → satInc c = c)
    ∧ (c.toNat < 4294967295 → (satInc c).toNat = c.toNat + 1))
  ∧ ∀ (channel edge : Byte) (captured : Word) (s : State), s.addressed = true →
    ((2 ≤ channel.toNat ∨ s.job.state ≠ .run
        ∨ ∃ h : channel.toNat < 2, edge ≠ (s.reg.edges[channel.toNat]'h).byte) →
      exec (.markev channel edge captured) s = .next s)
    ∧ (s.job.state = .run → s.reg.state = .free →
      (beyond captured (shift s.track.pos s.job.job.pitch) = true
        ∨ fromThrough captured (shift s.reg.lastAnchor (s.job.job.pitch / 2 : Nat))
            (shift s.reg.lastAnchor ((s.job.job.pitch : Int) + s.job.job.window)) = false) →
      exec (.markev 0#8 s.reg.edges[0].byte captured) s
        = .next { s with reg := { s.reg with seekSkip := satInc s.reg.seekSkip } })
    ∧ (s.job.state = .run → s.reg.state ≠ .free →
      (beyond captured (shift s.track.pos s.job.job.pitch) = true
        ∨ fromThrough captured (shift s.reg.lastAnchor (s.pitchEstimate - s.job.job.window))
            (shift s.reg.lastAnchor (s.pitchEstimate + s.job.job.window)) = false) →
      exec (.markev 0#8 s.reg.edges[0].byte captured) s
        = .next { s with reg := { s.reg with stray := satInc s.reg.stray } })
    ∧ (s.job.state = .run → 1 < s.job.job.cycle →
      exec (.markev 1#8 s.reg.edges[1].byte captured) s
        = .next { s with reg := { s.reg with cyclePending := true } })
    ∧ (s.job.state = .run → s.job.job.cycle ≤ 1 →
      exec (.markev 1#8 s.reg.edges[1].byte captured) s = .next s)
    ∧ (s.job.state = .run → s.reg.state = .free → 256 ≤ s.track.queue.length →
      beyond captured (shift s.track.pos s.job.job.pitch) = false →
      fromThrough captured (shift s.reg.lastAnchor (s.job.job.pitch / 2 : Nat))
        (shift s.reg.lastAnchor ((s.job.job.pitch : Int) + s.job.job.window)) = true →
      exec (.markev 0#8 s.reg.edges[0].byte captured) s = .next (s.enterHold .queueFull))
    ∧ (s.job.state = .run → s.reg.state ≠ .free → 256 ≤ s.track.queue.length →
      beyond captured (shift s.track.pos s.job.job.pitch) = false →
      fromThrough captured (shift s.reg.lastAnchor (s.pitchEstimate - s.job.job.window))
        (shift s.reg.lastAnchor (s.pitchEstimate + s.job.job.window)) = true →
      exec (.markev 0#8 s.reg.edges[0].byte captured) s = .next (s.enterHold .queueFull))
    ∧ ∀ t, s.predictOne = some t → 256 ≤ s.track.queue.length → t = s.enterHold .queueFull

/-- A pitch sample joins the ring of 32 and nothing else changes while the ring holds fewer than 2^n; with 2^n the
estimate is recomputed and the alarms are compared. The estimate in force is then the rounded average of the newest
2^n samples clamped to repeat - W through repeat + W, and with fewer it is the repeat length (R31, R32, R34). -/
def Obligations.SampleSetsTheEstimate : Prop :=
  (∀ v lo hi : Int, lo ≤ hi → clamp v lo hi = max lo (min v hi))
  ∧ (∀ s : State, s.pitchEstimate
      = if s.reg.samples.length < 2 ^ s.job.job.depth then (s.job.job.pitch : Int) else s.reg.estimate)
  ∧ ∀ (sample : Int) (s : State),
    let samples := (sample :: s.reg.samples).take 32
    let t := s.placeSample sample
    t.reg.samples = samples
    ∧ (samples.length < 2 ^ s.job.job.depth →
      t = { s with reg := { s.reg with samples } } ∧ t.pitchEstimate = s.job.job.pitch)
    ∧ (2 ^ s.job.job.depth ≤ samples.length →
      t = ({ s with reg := { s.reg with samples, estimate := t.reg.estimate } } : State).compareAlarms
        ∧ t.pitchEstimate = t.reg.estimate)
    ∧ (s.job.job.depth = 0 →
      t.pitchEstimate = clamp sample ((s.job.job.pitch : Int) - s.job.job.window)
        ((s.job.job.pitch : Int) + s.job.job.window))
    ∧ ∀ m, s.job.job.depth = m + 1 → 2 ^ (m + 1) ≤ samples.length →
      t.pitchEstimate
        = clamp (((samples.take (2 ^ (m + 1))).sum + 2 ^ m) / 2 ^ (m + 1))
            ((s.job.job.pitch : Int) - s.job.job.window) ((s.job.job.pitch : Int) + s.job.job.window)

/-- The alarm comparison sets the flag of the threshold passed, clears the other flag in window mode, and queues
the notice only where the flag was clear, for a low threshold below the high one; ACK_ALARMS completes in every
state: both flags are cleared and nothing else (R34 to R36). That a flag set already changes nothing even where both
stand in window mode is the model's reading (log entry 28). -/
def Obligations.AlarmsLatchUntilAcknowledged : Prop :=
  ∀ s : State,
    (s.job.job.lowThreshold < s.job.job.highThreshold →
      (s.reg.estimate < s.job.job.lowThreshold → s.reg.pitchLow = false →
        s.compareAlarms = ({ s with reg := { s.reg with
            pitchLow := true, pitchHigh := if s.job.job.windowMode then false else s.reg.pitchHigh } }
          : State).notify .pitchAlarm none (BitVec.ofInt 32 s.reg.estimate))
      ∧ ((s.job.job.highThreshold : Int) < s.reg.estimate → s.reg.pitchHigh = false →
        s.compareAlarms = ({ s with reg := { s.reg with
            pitchHigh := true, pitchLow := if s.job.job.windowMode then false else s.reg.pitchLow } }
          : State).notify .pitchAlarm none (BitVec.ofInt 32 s.reg.estimate))
      ∧ (s.reg.estimate < s.job.job.lowThreshold → s.reg.pitchLow = true → s.compareAlarms = s)
      ∧ ((s.job.job.highThreshold : Int) < s.reg.estimate → s.reg.pitchHigh = true → s.compareAlarms = s)
      ∧ ((s.job.job.lowThreshold : Int) ≤ s.reg.estimate → s.reg.estimate ≤ s.job.job.highThreshold →
        s.compareAlarms = s))
    ∧ (s.addressed = true →
      exec .ackAlarms s
        = .next (({ s with reg := { s.reg with pitchLow := false, pitchHigh := false } } : State).reply .ok))

/-! ## Holds -/

/-- Entry to HOLD in RUN or ENDING: the cause set and noticed, every queued record accounted LOST where its label
was not yet counted, queue, zones, KNIFE and GATE commands and late gates gone, and everything else kept; in other
states nothing happens. Each stack list is settled: a CHANGING record stays, one on which nothing has landed goes,
one that has landed labels and awaits more or is ASSIGNING becomes FILLED and SHORT with what has landed, a
complete one stays; every gap is 0, and the oldest record's change is asked for where it is due (R16, R25, R62,
R65, R85, R114, R118, R130, R139, R153, R163, R166). The STACK items join in lane order, the model's choice (log
entry 26). -/
def Obligations.HoldDiscardsAndAccounts : Prop :=
  ∀ (cause : HoldCause) (s : State),
    let code : Nat := match cause with
      | .none => 0
      | .halt => 1
      | .webBreak => 2
      | .linkLoss => 3
      | .reverse => 4
      | .jump => 5
      | .queueFull => 6
    let settled (x : StackRec) : Option StackRec :=
      if x.state = .changing then some x
      else if x.arrived = 0 then none
      else if x.arrived < x.assigned ∨ x.state = .assigning then
        some { x with state := .filled, short := true, assigned := x.arrived }
      else some x
    let list (k : Fin 8) : List StackRec := (s.lane k).list.filterMap settled
    (s.running = false → s.enterHold cause = s)
    ∧ (s.running = true →
      let t := s.enterHold cause
      t.job = { s.job with state := .hold, cause }
      ∧ t.track = { s.track with queue := [], zones := [] }
      ∧ t.reg = s.reg ∧ t.cut = s.cut ∧ t.link = s.link ∧ t.pending = s.pending
      ∧ t.sched = { s.sched.notify .jobState none (BitVec.ofNat 32 (code * 256 + 4)) with
          knife := [], gate := [], stack := s.sched.stack ++ allLanes.flatMap fun k => changeItems k (list k) }
      ∧ t.disp.disp = s.disp.disp ∧ t.disp.overrides = s.disp.overrides
      ∧ t.disp.lateGates = Vector.replicate 8 []
      ∧ (∀ k : Fin 8, t.disp.counters[k.val] =
          if k.val < s.job.job.lanes then
            (LaneCounters.bump .lost)^[(s.track.queue.filter fun r =>
              r.commit == .uncommitted || r.lanes[k.val].outcome == some .stack).length]
              s.disp.counters[k.val]
          else s.disp.counters[k.val])
      ∧ t.stk = { s.stk with lanes := Vector.ofFn fun k : Fin 8 =>
          { s.lane k with list := changeAsked (list k), gap := 0 } })

/-- WEBBREAK and HALT complete: in RUN and ENDING they enter HOLD with their causes, and otherwise a WEBBREAK
does nothing and a HALT is refused WRONG_STATE. The expiry of a running link-loss timer stops it, sets LINK_DOWN
and queues the notice of its interval, and enters HOLD in RUN and ENDING; a stopped timer does not expire (R163
to R165, R172). -/
def Obligations.HoldCausesTakeEffect : Prop :=
  ∀ s : State,
    (s.addressed = true →
      (s.running = true → exec .webbreak s = .next (s.enterHold .webBreak)
        ∧ exec .halt s = .next ((s.enterHold .halt).reply .ok))
      ∧ (s.running = false → exec .webbreak s = .next s ∧ exec .halt s = .next (s.reply .wrongState)))
    ∧ (s.link.timer = none → exec .linkLossTimerExpiry s = .next s)
    ∧ ∀ n, s.link.timer = some n →
      let u := ({ s with link := { s.link with timer := none, linkDown := true } } : State).notify .linkDown
        none (BitVec.ofNat 32 n)
      (s.running = true → exec .linkLossTimerExpiry s = .next (u.enterHold .linkLoss))
      ∧ (s.running = false → exec .linkLossTimerExpiry s = .next u)

/-! ## Zones -/

/-- A zone that is listed while the list has room stands before the first zone whose x_lo is beyond its own, or
at the end, and nothing else changes (R72). -/
def Obligations.ZonesInsertedInOrder : Prop :=
  ∀ (z : Zone) (s : State), s.track.zones.length < 64 →
    s.listZone z = { s with track := { s.track with
      zones := (s.track.zones.takeWhile fun y => !beyond y.lo z.lo) ++ z
        :: (s.track.zones.dropWhile fun y => !beyond y.lo z.lo) } }

/-- A zone that finds 64 zones listed merges into one at least distance among those of its kind, or of either kind
where none is of its kind: the distance is 0 for zones that overlap, and else the gap between them, or one of the two
gaps where each is beyond the other; of equally near zones the one with the lower x_lo is chosen, and of those the
earlier in the list. The merged zone spans both, takes its place by its x_lo, is counted and noticed (R73, R74). It
holds for every value that the manual leaves open (log entries 7 and 8). That 'lower' is read in the modular order of
the list is the model's reading, stated for lists whose x_lo values lie within half a circle (log entry 9). -/
def Obligations.FullListMerges : Prop :=
  (∀ z y : Zone,
    let overlap : Prop := atOrBeyond y.hi z.lo = true ∧ atOrBeyond z.hi y.lo = true
    (overlap → zoneDistance z y = 0)
    ∧ (¬overlap → beyond y.lo z.hi = true → (beyond z.lo y.hi = false ∨ z.lo - y.hi = y.lo - z.hi) →
        zoneDistance z y = (y.lo - z.hi).toNat)
    ∧ (¬overlap → beyond z.lo y.hi = true → (beyond y.lo z.hi = false ∨ y.lo - z.hi = z.lo - y.hi) →
        zoneDistance z y = (z.lo - y.hi).toNat)
    ∧ (¬overlap → beyond y.lo z.hi = true → beyond z.lo y.hi = true →
        zoneDistance z y = (y.lo - z.hi).toNat ∨ zoneDistance z y = (z.lo - y.hi).toNat))
  ∧ ∀ (z : Zone) (s : State), s.track.zones.length = 64 →
    let candidate (x : Zone) : Prop := x.kind = z.kind ∨ ∀ w ∈ s.track.zones, w.kind ≠ z.kind
    ∃ (i : Nat) (y m : Zone), s.track.zones[i]? = some y ∧ candidate y
      ∧ (∀ x ∈ s.track.zones, candidate x → zoneDistance z y ≤ zoneDistance z x)
      ∧ (∀ base : Word, (∀ x ∈ s.track.zones, (x.lo - base).toNat < 2147483648) →
          ∀ (j : Nat) (x : Zone), s.track.zones[j]? = some x → candidate x →
            zoneDistance z x = zoneDistance z y →
            (y.lo - base).toNat ≤ (x.lo - base).toNat ∧ (x.lo = y.lo → i ≤ j))
      ∧ (y.kind = z.kind → m.kind = z.kind) ∧ (y.kind ≠ z.kind → m.kind = .splice)
      ∧ (m.kind = .defect → m.lanes = z.lanes ||| y.lanes) ∧ (m.kind = .splice → m.lanes = 0xFF#8)
      ∧ (atOrBeyond y.lo z.lo = true → m.lo = z.lo)
      ∧ (atOrBeyond z.lo y.lo = true → m.lo = y.lo)
      ∧ (atOrBeyond z.hi y.hi = true → m.hi = z.hi)
      ∧ (atOrBeyond y.hi z.hi = true → m.hi = y.hi)
      ∧ (insertZone m (s.track.zones.eraseIdx i)).length = 64
      ∧ s.listZone z
          = (({ s with track := { s.track with zones := insertZone m (s.track.zones.eraseIdx i),
                                               zoneMerge := satInc s.track.zoneMerge } } : State).notify
              .zoneMerge none m.lo)

/-- INSPECT and SPLICE complete: in CONFIG, or with no lane in use named, nothing happens; otherwise the zone
they form sets its flag in every uncommitted closed record it reaches, hands the lanes of every committed one to the
late-information rule with its kind, which counts LATE_INFO in each, and is listed where it reaches the frontier, and
else counted STALE if it reached no record; nothing else changes (R66 to R71, R115). The records are taken oldest
first; that the lanes of one record go from lane 0 upward is the model's choice (log entry 26). -/
def Obligations.ReportsReachRecordsAndList : Prop :=
  (∀ (lanes : Byte) (k : Fin 8) (count : Nat), (inLaneSet lanes k = true ↔ lanes.getLsbD k.val = true)
    ∧ ((lanesBelow count).getLsbD k.val = true ↔ k.val < count))
  ∧ ∀ s : State, s.addressed = true →
    (∀ valid lanes captured length, (s.job.state = .config ∨ lanes &&& lanesBelow s.job.job.lanes = 0#8) →
      exec (.inspect valid lanes captured length) s = .next s)
    ∧ (∀ captured, s.job.state = .config → exec (.splice captured) s = .next s)
    ∧ (∀ (valid lanes : Byte) captured (length : Half), s.job.state ≠ .config →
        lanes &&& lanesBelow s.job.job.lanes ≠ 0#8 →
        (valid ≠ 0#8 → exec (.inspect valid lanes captured length) s = .next (s.takeZone
          { kind := .defect, lo := shift captured (-s.job.station.dC),
            hi := shift (shift captured (-s.job.station.dC)) length.toNat,
            lanes := lanes &&& lanesBelow s.job.job.lanes }))
        ∧ (valid = 0#8 → exec (.inspect valid lanes captured length) s = .next (s.takeZone
          { kind := .defect, lo := shift s.track.pos (-s.job.station.dC),
            hi := shift s.track.pos (-s.job.station.dC), lanes := lanes &&& lanesBelow s.job.job.lanes })))
    ∧ (∀ captured, s.job.state ≠ .config → exec (.splice captured) s = .next (s.takeZone
        { kind := .splice
          lo := shift (shift captured (-s.job.station.dU)) (-(s.job.job.marginBefore : Int))
          hi := shift (shift captured (-s.job.station.dU)) s.job.job.marginAfter
          lanes := 0xFF#8 }))
    ∧ ∀ z : Zone, s.SerialsApart →
      let t := s.takeZone z
      let hits (r : Record) : Bool := r.nominalEnd.any fun e => behind z.lo e && atOrBeyond z.hi r.nominalStart
      let listed : Bool := s.track.queue.getLast?.all fun r =>
        atOrBeyond z.hi (r.nominalEnd.getD r.nominalStart)
      let lanes := allLanes.filter fun k => decide (k.val < s.job.job.lanes) && inLaneSet z.lanes k
      let kind : LateKind := match z.kind with
        | .defect => .defectZone
        | .splice => .spliceZone
      let late : State := (s.track.queue.filter fun r => hits r && r.commit == .committed).foldl
        (fun v r => lanes.foldl (fun v k => v.lateInformation r k kind) v) s
      let marked : State := { late with track := { s.track with queue := t.track.queue } }
      (listed = true → t = marked.listZone z)
      ∧ (listed = false → s.track.queue.any hits = true → t = marked)
      ∧ (listed = false → s.track.queue.any hits = false →
          t = { marked with track := { marked.track with stale := satInc s.track.stale } })
      ∧ t.track.queue = (s.track.queue.map fun r =>
          if hits r = true ∧ r.commit = .uncommitted then
            { r with lanes := Vector.ofFn fun k : Fin 8 =>
                if inLaneSet z.lanes k then
                  { r.lanes[k.val] with defect := r.lanes[k.val].defect || z.kind == .defect
                                        splice := r.lanes[k.val].splice || z.kind == .splice }
                else r.lanes[k.val] }
          else r)
      ∧ (∀ k : Fin 8, t.disp.counters[k.val] =
          if k.val < s.job.job.lanes ∧ inLaneSet z.lanes k = true then
            (LaneCounters.bump .lateInfo)^[(s.track.queue.filter fun r =>
              hits r && r.commit == .committed).length] s.disp.counters[k.val]
          else s.disp.counters[k.val])
      ∧ (listed = true → t.track.zones = (s.listZone z).track.zones ∧ t.track.stale = s.track.stale)
      ∧ (listed = false → t.track.zones = s.track.zones
          ∧ t.track.stale = if s.track.queue.any hits then s.track.stale else satInc s.track.stale)
      ∧ t.track.pos = s.track.pos ∧ t.track.nextSerial = s.track.nextSerial ∧ t.job = s.job
      ∧ t.reg = s.reg ∧ t.cut = s.cut ∧ t.link = s.link ∧ t.sched.knife = s.sched.knife
      ∧ t.sched.gate = s.sched.gate ∧ t.sched.stack = s.sched.stack

/-- At a closing every listed zone that reaches the record sets its flags, the zones that end behind the record's
end leave the list, those of them that end behind its start are counted STALE, and nothing else changes (R47,
R69, R75). -/
def Obligations.ClosingSweepsTheList : Prop :=
  ∀ (r : Record) (stop : Word) (s : State), s.SerialsApart → r ∈ s.track.queue →
    r.commit = .uncommitted →
    let hits (z : Zone) : Bool := behind z.lo stop && atOrBeyond z.hi r.nominalStart
    s.closeRecord r stop = { s with track := { s.track with
      queue := s.track.queue.map fun x =>
        if x.serial = r.serial then
          { x with
            nominalEnd := some stop
            lanes := Vector.ofFn fun k : Fin 8 =>
              { x.lanes[k.val] with
                defect := x.lanes[k.val].defect
                  || s.track.zones.any fun z => z.kind == .defect && hits z && inLaneSet z.lanes k
                splice := x.lanes[k.val].splice
                  || s.track.zones.any fun z => z.kind == .splice && hits z && inLaneSet z.lanes k } }
        else x
      zones := s.track.zones.filter fun z => !behind z.hi stop
      stale := satInc^[(s.track.zones.filter fun z =>
        behind z.hi stop && behind z.hi r.nominalStart).length] s.track.stale } }

/-! ## Cuts -/

/-- The cut-due transition of a PENDING record: late, it becomes LATE with the line of the applied correction and
no command; due with room, the applied correction takes one step of at most the step limit towards the target
without passing it, the line is set and the command queued, and the ramp grows outside LOCKED; otherwise nothing
happens (R50, R51, R87 to R91). -/
def Obligations.CutsAreBuiltOrLate : Prop :=
  ∀ (r : Record) (s : State), r.cut = .pending →
    let late := beyond s.track.pos (shift r.anchor
      ((s.job.job.m2c : Int) + s.cut.applied + s.job.station.dK - s.job.station.knifeLead))
    let due := atOrBeyond s.track.pos (shift r.anchor
      ((s.job.job.m2c : Int) + s.job.station.dK - s.job.station.knifeHorizon))
    let limit : Nat := if s.reg.state = .locked then s.job.loop.maxStep else s.cut.ramp
    (late = true →
      s.cutTransition r = ({ s with track := { s.track with queue := s.track.queue.map fun x =>
        if x.serial = r.serial then
          { x with cut := .late, check := .noCheck,
                   cutLine := some (shift r.anchor ((s.job.job.m2c : Int) + s.cut.applied)) }
        else x } } : State).lateCutEffects r.serial)
    ∧ (late = false → due = true → s.sched.knife.length < 8 →
      ∃ a : Int, (a - s.cut.applied).natAbs ≤ limit
        ∧ ((s.cut.target - s.cut.applied).natAbs ≤ limit → a = s.cut.target)
        ∧ (s.cut.applied + limit < s.cut.target → a = s.cut.applied + limit)
        ∧ (s.cut.target < s.cut.applied - limit → a = s.cut.applied - limit)
        ∧ s.cutTransition r = { s with
            cut := { s.cut with
              applied := a
              ramp := if s.reg.state ≠ .locked ∧ s.cut.ramp < s.job.loop.maxStep then s.cut.ramp + 1
                      else s.cut.ramp }
            track := { s.track with queue := s.track.queue.map fun x =>
              if x.serial = r.serial then
                { x with cut := .queued, cutLine := some (shift r.anchor ((s.job.job.m2c : Int) + a)) }
              else x }
            sched := { s.sched with knife := s.sched.knife ++
              [{ serial := r.serial,
                 cutPos := shift (shift r.anchor ((s.job.job.m2c : Int) + a)) s.job.station.dK }] } })
    ∧ (late = false → (due = false ∨ 8 ≤ s.sched.knife.length) → s.cutTransition r = s)

/-- The effects of a late cut: LATE_CUT counted and noticed, and the record before it takes LATE_NEXT; where that was
committed already, its label in every lane in use is handed to the late-information rule as late by LATE_NEXT, which
counts LATE_INFO; a first record has none before it, and nothing else changes (R53, R92, R115). That LATE_INFO goes
before LATE_CUT, and the lanes from lane 0 upward, is the model's (log entries 12 and 26). -/
def Obligations.LateCutIsReported : Prop :=
  ∀ (r : Record) (younger : List Record) (s : State),
    (s.track.queue = r :: younger →
      s.lateCutEffects r.serial
        = ({ s with cut := { s.cut with lateCut := satInc s.cut.lateCut } } : State).notify .lateCut none
            r.serial)
    ∧ ∀ (older : List Record) (before : Record), s.SerialsApart →
      s.track.queue = older ++ before :: r :: younger →
      let t := s.lateCutEffects r.serial
      let informed : State := (allLanes.filter fun k => decide (k.val < s.job.job.lanes)).foldl
        (fun v k => v.lateInformation before k .lateNext) s
      let counted (v : State) : State := ({ v with
        track := { s.track with queue := older ++ { before with lateNext := true } :: r :: younger }
        cut := { s.cut with lateCut := satInc s.cut.lateCut } } : State).notify .lateCut none r.serial
      (before.commit = .uncommitted → t = counted s)
      ∧ (before.commit = .committed → t = counted informed
          ∧ ∀ k : Fin 8, t.disp.counters[k.val] =
              if k.val < s.job.job.lanes then s.disp.counters[k.val].bump .lateInfo
              else s.disp.counters[k.val])
      ∧ t.job = s.job ∧ t.reg = s.reg ∧ t.link = s.link ∧ t.sched.knife = s.sched.knife
      ∧ t.sched.gate = s.sched.gate ∧ t.sched.stack = s.sched.stack

/-- CUTMEAS completes: with no SENT and unchecked record it counts STRAY_MEAS; a valid report for a record of
origin MARKED or PREDICTED marks the oldest such record CHECKED, moves the integral and the target, unless Kp and Ki
are both 0 and both stay, and locks or unlocks by the clamped error; and the target's rounding takes the integer
nearest to T / 256, of two equally near the one of larger magnitude (R93, R95 to R98, R21, R22, R89). That R96 goes
before R95 where both gains are 0 is the model's reading (log entry 27). -/
def Obligations.MeasurementMovesTheLoop : Prop :=
  (∀ t : Int, 2 * (256 * round256 t - t).natAbs ≤ 256
    ∧ (2 * (256 * round256 t - t).natAbs = 256 → t.natAbs < (256 * round256 t).natAbs)) ∧
  ∀ (valid : Byte) (error : Half) (s : State), s.addressed = true →
    ((∀ x ∈ s.track.queue, ¬(x.cut = .sent ∧ x.check = .unchecked)) →
      exec (.cutmeas valid error) s
        = .next { s with cut := { s.cut with strayMeas := satInc s.cut.strayMeas } })
    ∧ ∀ (older younger : List Record) (r : Record), s.track.queue = older ++ r :: younger → s.SerialsApart →
      (∀ x ∈ older, ¬(x.cut = .sent ∧ x.check = .unchecked)) → r.cut = .sent → r.check = .unchecked →
      r.origin ≠ .free → valid ≠ 0#8 →
      let e := clamp error.toInt (-4095) 4095
      let i := clamp (s.cut.integral - s.job.loop.ki * e) (-(s.job.loop.limit * 256 : Int))
        (s.job.loop.limit * 256)
      let u : State := { s with
        track := { s.track with queue := older ++ { r with check := .checked } :: younger }
        cut := if s.job.loop.kp = 0 ∧ s.job.loop.ki = 0 then s.cut else { s.cut with
          integral := i
          target := clamp (round256 (-(s.job.loop.kp * e) + i)) (-(s.job.loop.limit : Int))
            s.job.loop.limit } }
      (s.reg.state = .free → exec (.cutmeas valid error) s = .next u)
      ∧ (s.reg.state = .acquire → e.natAbs ≤ s.job.loop.lockTolerance →
        exec (.cutmeas valid error) s
          = .next (({ u with reg := { u.reg with state := .locked } } : State).notify .regState none 2#32))
      ∧ (s.reg.state = .acquire → s.job.loop.lockTolerance < e.natAbs →
        exec (.cutmeas valid error) s = .next u)
      ∧ (s.reg.state = .locked → s.job.loop.unlockTolerance < e.natAbs →
        exec (.cutmeas valid error) s
          = .next (({ u with
              cut := { u.cut with ramp := max 1 (s.job.loop.maxStep / 32) }
              reg := { u.reg with state := .acquire } } : State).notify .regState none 1#32))
      ∧ (s.reg.state = .locked → e.natAbs ≤ s.job.loop.unlockTolerance →
        exec (.cutmeas valid error) s = .next u)

/-- An associated CUTMEAS whose valid flag is clear, or whose record has origin FREE, sets the check state
IGNORED and changes nothing else (R94). -/
def Obligations.UnusedMeasurementIsIgnored : Prop :=
  ∀ (valid : Byte) (error : Half) (s : State) (older younger : List Record) (r : Record),
    s.addressed = true → s.track.queue = older ++ r :: younger → s.SerialsApart →
    (∀ x ∈ older, ¬(x.cut = .sent ∧ x.check = .unchecked)) → r.cut = .sent → r.check = .unchecked →
    (valid = 0#8 ∨ r.origin = .free) →
    exec (.cutmeas valid error) s
      = .next { s with track := { s.track with
          queue := older ++ { r with check := .ignored } :: younger } }

/-! ## Disposition -/

/-- An OVERRIDE entry matches by its valid flag, its serial range, which wraps, and its lane set; the matched
override of a record and lane is the matching entry of lowest index, and its action is written as the lane
entry's override result at the commit, absent where none matches (R104). -/
def Obligations.LowestOverrideMatches : Prop :=
  (∀ (e : OverrideEntry) (serial : Word) (k : Fin 8),
      e.covers serial k = true ↔
        e.valid = true ∧ (serial - e.first).toNat ≤ (e.last - e.first).toNat ∧ e.lanes.getLsbD k.val = true)
    ∧ (∀ (e : OverrideEntry) (serial : Word) (k : Fin 8), e.valid = true → e.lanes.getLsbD k.val = true →
        (e.last = e.first → (e.covers serial k = true ↔ serial = e.first))
        ∧ (e.first = e.last + 1#32 → e.covers serial k = true))
    ∧ (∀ (d : Disposition) (serial : Word) (k : Fin 8) (a : OverrideAction),
        d.overrideFor serial k = some a ↔
          ∃ i : Fin 32, d.overrides[i.val].covers serial k = true ∧ d.overrides[i.val].action = a
            ∧ ∀ j : Fin 32, j < i → d.overrides[j.val].covers serial k = false)
    ∧ (∀ (d : Disposition) (serial : Word) (k : Fin 8),
        d.overrideFor serial k = none ↔ ∀ i : Fin 32, d.overrides[i.val].covers serial k = false)
    ∧ ∀ (s : State) (r : Record) (cutLine labelEnd : Word) (k : Fin 8), s.SerialsApart →
        r ∈ s.track.queue → ∃ x ∈ (s.commitLane r cutLine labelEnd k).track.queue,
          x.serial = r.serial ∧ x.lanes[k.val].override = s.disp.overrideFor r.serial k

/-- The decision of a label: the record's steps in their order give WASTE or REJECT; a label that passes them takes
what the DISP table gives it; DIVERT for a lane that is disabled or, if enabled, in FAULT; GAP with one taken from
the gap counter while that is above 0; and else the answer of step 11, a full list being DIVERT. Steps 1 to 9 change
no state. A label is stacked only if its record is locked, in time and no tail, no splice and no defect without
FORCE_ACCEPT reaches it, and its lane is enabled, READY and without gap (R106 to R108; the change test of R130
after step 11 by log entry 13). -/
def Obligations.OutcomesFollowTheSteps : Prop :=
  ∀ (s : State) (r : Record) (k : Fin 8),
    let d := (s.decideLane r k).1
    let t := (s.decideLane r k).2
    let e := r.lanes[k.val]
    let matched := s.disp.overrideFor r.serial k
    let passes : Prop := r.tail = false ∧ matched ≠ some .forceReject ∧ r.cls = .locked ∧ r.cut ≠ .late
      ∧ r.lateNext = false ∧ e.splice = false ∧ ¬(r.origin = .predicted ∧ s.job.job.policy = .reject)
      ∧ ¬(e.defect = true ∧ matched ≠ some .forceAccept)
    let table := s.disp.tableStep r.design k
    let lane (l : StackLane) : State := { s with stk := { s.stk with lanes := s.stk.lanes.set k.val l } }
    (r.tail = true → d.outcome = .waste)
    ∧ (r.tail = false → matched = some .forceReject → d.outcome = .reject)
    ∧ (r.tail = false → matched ≠ some .forceReject → r.cls ≠ .locked → d.outcome = .waste)
    ∧ (r.tail = false → r.cls = .locked → (r.cut = .late ∨ r.lateNext = true ∨ e.splice = true) →
        d.outcome = .reject)
    ∧ (r.tail = false → r.cls = .locked → r.origin = .predicted → s.job.job.policy = .reject →
        d.outcome = .reject)
    ∧ (r.tail = false → r.cls = .locked → e.defect = true → matched ≠ some .forceAccept →
        d.outcome = .reject)
    ∧ (¬passes → t = s)
    ∧ (passes → ∀ o c, table = some (o, c) →
        o = .waste ∧ d = { outcome := .waste, cause := some c, ref := none } ∧ t = s)
    ∧ (passes → table = none → (s.cfg k).enabled = false →
        d = { outcome := .divert, cause := some .disabled, ref := none } ∧ t = s)
    ∧ (passes → table = none → (s.cfg k).enabled = true →
      ((s.lane k).state = .fault → d = { outcome := .divert, cause := some .fault, ref := none } ∧ t = s)
      ∧ ((s.lane k).state = .ready → 0 < (s.lane k).gap →
          d = { outcome := .gap, cause := none, ref := none }
            ∧ t = lane { s.lane k with gap := (s.lane k).gap - 1 })
      ∧ ((s.lane k).state = .ready → (s.lane k).gap = 0 → ∀ answer l,
          (s.lane k).assign (s.cfg k) r.design = (answer, l) →
          t = (lane l).requestChange k
            ∧ d = match answer with
              | .stack n => { outcome := .stack, cause := none, ref := some n }
              | .gap => { outcome := .gap, cause := none, ref := none }
              | .listFull => { outcome := .divert, cause := some .listFull, ref := none }))
    ∧ (d.outcome = .stack →
        r.tail = false ∧ matched ≠ some .forceReject ∧ r.cls = .locked ∧ r.cut ≠ .late
          ∧ r.lateNext = false ∧ e.splice = false ∧ (r.origin = .predicted → s.job.job.policy = .stack)
          ∧ (e.defect = true → matched = some .forceAccept)
          ∧ s.disp.resolve r.design k = some .stack ∧ (s.cfg k).enabled = true
          ∧ (s.lane k).state = .ready ∧ (s.lane k).gap = 0 ∧ d.ref.isSome = true)

/-- Step 8: the DISP entry at design x 8 + lane decides, a valid FOLLOW taking the action of the row's lane 0
entry once; what is invalid or follows further is wasted with cause NO_DISP (R107). -/
def Obligations.DispFollowsLaneZeroOnce : Prop :=
  ∀ (d : Disposition) (design : Fin 16) (lane : Fin 8),
    let e := d.disp[design.val * 8 + lane.val]
    let e0 := d.disp[design.val * 8]
    (e.valid = false → d.tableStep design.val lane = some (.waste, .noDisp))
    ∧ (e.valid = true → e.action = .waste → d.tableStep design.val lane = some (.waste, .table))
    ∧ (e.valid = true → e.action = .stack → d.tableStep design.val lane = none)
    ∧ (e.valid = true → e.action = .follow →
        ((e0.valid = false ∨ e0.action = .follow) →
          d.tableStep design.val lane = some (.waste, .noDisp))
        ∧ (e0.valid = true → e0.action = .waste → d.tableStep design.val lane = some (.waste, .table))
        ∧ (e0.valid = true → e0.action = .stack → d.tableStep design.val lane = none))

/-- The gate room test passes when the free places of the GATE queue are at least as many as the lanes in use whose
most recent item, if it still waits, does not end at the serial before. A commit that fails it changes nothing. One
that passes takes the lanes in use from lane 0 upward, each in the state that the lanes below it left: the decision
gives the lane's outcome and stack reference, which are written with its override result, an outcome but STACK
charges its counter once, and its gate item is built or extended; then the record is COMMITTED. It leaves every lane
not in use alone and never overfills the GATE queue (R43, R57, R104, R105, R109, R112, R113). -/
def Obligations.CommitDecidesEveryLane : Prop :=
  (∀ c : LaneCounters, c.bump .stacked = { c with stacked := satInc c.stacked }
    ∧ c.bump .rejected = { c with rejected := satInc c.rejected }
    ∧ c.bump .wasted = { c with wasted := satInc c.wasted } ∧ c.bump .gap = { c with gap := satInc c.gap }
    ∧ c.bump .diverted = { c with diverted := satInc c.diverted }
    ∧ c.bump .lost = { c with lost := satInc c.lost }
    ∧ c.bump .lateInfo = { c with lateInfo := satInc c.lateInfo }
    ∧ c.bump .lateGate = { c with lateGate := satInc c.lateGate })
  ∧ ∀ (s : State) (r : Record) (cutLine labelEnd : Word), s.SerialsApart → r ∈ s.track.queue →
    s.sched.gate.length ≤ 16 →
    let joins (k : Fin 8) : Bool :=
      (s.sched.gate.filter (·.lane == k)).getLast?.any (·.last == r.serial - 1#32)
    let lanes := allLanes.filter fun k => decide (k.val < s.job.job.lanes)
    let needed := (lanes.filter fun k => !joins k).length
    let recorded (k : Fin 8) (d : Decision) (u : State) : State :=
      { u with track := { u.track with queue := u.track.queue.map fun y =>
          if y.serial = r.serial then
            { y with lanes := y.lanes.set k.val { y.lanes[k.val] with
                override := s.disp.overrideFor r.serial k, outcome := some d.outcome, stackRef := d.ref } }
          else y } }
    let charged (k : Fin 8) (c : LaneCounter) (u : State) : State :=
      { u with disp := { u.disp with counters := u.disp.counters.set k.val (u.disp.counters[k.val].bump c) } }
    let decided (u : State) (k : Fin 8) : State :=
      let d := (u.decideLane r k).1
      let v := recorded k d (u.decideLane r k).2
      match d.outcome with
      | .stack => v
      | .reject => (charged k .rejected v).gateLabel r.serial cutLine labelEnd k
      | .waste => (charged k .wasted v).gateLabel r.serial cutLine labelEnd k
      | .gap => (charged k .gap v).gateLabel r.serial cutLine labelEnd k
      | .divert => (charged k .diverted v).gateLabel r.serial cutLine labelEnd k
    (16 - s.sched.gate.length < needed → s.commit r cutLine labelEnd = s)
    ∧ (needed ≤ 16 - s.sched.gate.length →
      let t := s.commit r cutLine labelEnd
      let u := lanes.foldl decided s
      t = { u with track := { u.track with queue := u.track.queue.map fun y =>
          if y.serial = r.serial then { y with commit := .committed } else y } }
      ∧ ∃ x : Record, t.track = { s.track with
          queue := s.track.queue.map fun y => if y.serial = r.serial then x else y }
        ∧ x = { r with commit := .committed, lanes := x.lanes }
        ∧ (∀ k : Fin 8, s.job.job.lanes ≤ k.val → x.lanes[k.val] = r.lanes[k.val]
            ∧ t.disp.counters[k.val] = s.disp.counters[k.val] ∧ t.lane k = s.lane k)
        ∧ (∀ k : Fin 8, k.val < s.job.job.lanes →
            let left : State := (lanes.filter fun j => decide (j < k)).foldl decided s
            let d := (left.decideLane r k).1
            x.lanes[k.val] = { r.lanes[k.val] with
                override := s.disp.overrideFor r.serial k, outcome := some d.outcome, stackRef := d.ref }
              ∧ (d.ref.isSome = true ↔ d.outcome = .stack)
              ∧ t.lane k = (left.decideLane r k).2.lane k
              ∧ t.disp.counters[k.val] = (match d.outcome with
                  | .stack => s.disp.counters[k.val]
                  | .reject => s.disp.counters[k.val].bump .rejected
                  | .waste => s.disp.counters[k.val].bump .wasted
                  | .gap => s.disp.counters[k.val].bump .gap
                  | .divert => s.disp.counters[k.val].bump .diverted)
              ∧ (d.outcome = .stack →
                  t.sched.gate.filter (·.lane == k) = s.sched.gate.filter (·.lane == k))
              ∧ (d.outcome ≠ .stack →
                  t.sched.gate.filter (·.lane == k)
                      = (left.gateLabel r.serial cutLine labelEnd k).sched.gate.filter (·.lane == k)
                    ∧ ((t.sched.gate.filter (·.lane == k)).getLast?.map (·.last)) = some r.serial))
        ∧ t.sched.gate.length ≤ 16 ∧ t.sched.knife = s.sched.knife
        ∧ t.sched.notices = s.sched.notices ∧ t.reg = s.reg ∧ t.cut = s.cut ∧ t.job = s.job
        ∧ t.link = s.link ∧ t.disp.disp = s.disp.disp ∧ t.disp.overrides = s.disp.overrides
        ∧ t.disp.lateGates = s.disp.lateGates)

/-- The gate span of a label runs from its cut line + dG - gate pre to its label end + dG + gate post; a lane
whose most recent item waits and ends at the serial before has that item extended in place, and any other lane
gets a new item at the tail (R112, R113). -/
def Obligations.GateItemsExtendOrJoin : Prop :=
  ∀ (s : State) (serial cutLine labelEnd : Word) (k : Fin 8),
    let openPos := shift cutLine ((s.job.station.dG : Int) - (s.cfg k).gatePre)
    let closePos := shift labelEnd ((s.job.station.dG : Int) + (s.cfg k).gatePost)
    (∀ (before after : List GateItem) (g : GateItem), s.sched.gate = before ++ g :: after → g.lane = k →
      (∀ x ∈ after, x.lane ≠ k) → g.last = serial - 1#32 →
      s.gateLabel serial cutLine labelEnd k = { s with sched := { s.sched with
        gate := before ++ { g with closePos, last := serial } :: after } })
    ∧ ((∀ (before after : List GateItem) (g : GateItem), s.sched.gate = before ++ g :: after → g.lane = k →
        (∀ x ∈ after, x.lane ≠ k) → g.last ≠ serial - 1#32) →
      s.gateLabel serial cutLine labelEnd k = { s with sched := { s.sched with
        gate := s.sched.gate ++ [{ lane := k, openPos, closePos, first := serial, last := serial }] } })

/-- Late information counts LATE_INFO and queues its notice; a late zone or late cut marks the stack that a STACK
label is assigned to, but for a DEFECT zone under FORCE_ACCEPT; a late gate marks the receiving stack; no outcome
changes (R115, R129). -/
def Obligations.LateInformationMarksStacks : Prop :=
  ∀ (s : State) (r : Record) (k : Fin 8) (kind : LateKind),
    let e := r.lanes[k.val]
    let t := s.lateInformation r k kind
    let lane (list : List StackRec) : Stacking :=
      { s.stk with lanes := s.stk.lanes.set k.val { s.lane k with list } }
    t.disp = { s.disp with counters := s.disp.counters.set k.val (s.disp.counters[k.val].bump .lateInfo) }
    ∧ t.sched = s.sched.notify .lateInfo (some k) r.serial
    ∧ t.track = s.track ∧ t.reg = s.reg ∧ t.cut = s.cut ∧ t.job = s.job ∧ t.link = s.link
    ∧ (kind ≠ .lateGate → e.outcome ≠ some .stack → t.stk = s.stk)
    ∧ (kind = .defectZone → e.override = some .forceAccept → t.stk = s.stk)
    ∧ (∀ n, kind ≠ .lateGate → e.outcome = some .stack → e.stackRef = some n →
        (kind ≠ .defectZone ∨ e.override ≠ some .forceAccept) →
        t.stk = lane ((s.lane k).list.map fun x =>
          if x.number = n ∧ x.state ≠ .changing then { x with suspect := x.suspect + 1 } else x))
    ∧ (∀ (changing rest : List StackRec) (x : StackRec), kind = .lateGate →
        (s.lane k).list = changing ++ x :: rest → (∀ y ∈ changing, y.state = .changing) →
        x.state ≠ .changing →
        t.stk = lane (changing ++ { x with suspect := x.suspect + 1 } :: rest))
    ∧ (kind = .lateGate → (∀ y ∈ (s.lane k).list, y.state = .changing) → t.stk = s.stk)

/-- The arrival of the oldest record takes the late gates of every lane in use, then the landing of every lane in
use, each from lane 0 upward, and retires the record; the queue that becomes empty in ENDING is closed. A STACK label
is charged STACKED where its lane is READY, its stack record stands, and the label does not overrun the hold limit
of a lane in change; else it is charged LOST; no other outcome counter moves. A label that lands raises the arrived
count of its stack record, and in a change its held count; one that overruns faults the lane with cause
HOLD_OVERRUN. At the arrival the late-gate ranges that end behind the serial go, and if the first that is left holds
it the label is charged as a late-gate label, the range going with its last serial (R58, R61, R114, R117, R127,
R128; log entry 11 for the test of the range). -/
def Obligations.ArrivalCountsEveryStackLabel : Prop :=
  (∀ (s : State) (r : Record) (rest : List Record), s.track.queue = r :: rest →
    let lanes := allLanes.filter fun k => decide (k.val < s.job.job.lanes)
    let landed := lanes.foldl (fun v k => v.arriveLane r k) (lanes.foldl (fun v k => v.lateGateCharge r k) s)
    let retired : State := { landed with track := { landed.track with queue := rest } }
    let t := s.arrive r
    (s.job.state ≠ .ending ∨ rest ≠ [] → t = retired)
    ∧ (s.job.state = .ending → rest = [] → t = retired.endOfJobClosing)
    ∧ t.track = { s.track with queue := rest } ∧ t.reg = s.reg ∧ t.cut = s.cut ∧ t.link = s.link
    ∧ t.sched.knife = s.sched.knife ∧ t.sched.gate = s.sched.gate
    ∧ ∀ k : Fin 8,
      let c := s.disp.counters[k.val]
      let c' := t.disp.counters[k.val]
      let l := s.lane k
      c'.rejected = c.rejected ∧ c'.wasted = c.wasted ∧ c'.gap = c.gap ∧ c'.diverted = c.diverted
      ∧ c'.lateGate = c.lateGate
      ∧ (k.val < s.job.job.lanes → r.lanes[k.val].outcome = some .stack →
          (c'.stacked = satInc c.stacked ∧ c'.lost = c.lost)
            ∨ (c'.stacked = c.stacked ∧ c'.lost = satInc c.lost))
      ∧ (∀ n, k.val < s.job.job.lanes → r.lanes[k.val].outcome = some .stack →
          r.lanes[k.val].stackRef = some n → (l.list.map (·.number)).Nodup →
          ((l.state = .ready ∧ n ∈ l.list.map (·.number)
              ∧ (l.list.head?.map (·.state) = some .changing →
                  (l.list.map (·.held)).sum + 1 ≤ (s.cfg k).holdLimit)) →
            c'.stacked = satInc c.stacked ∧ c'.lost = c.lost)
          ∧ ((l.state = .fault ∨ n ∉ l.list.map (·.number)
              ∨ (l.list.head?.map (·.state) = some .changing
                  ∧ (s.cfg k).holdLimit < (l.list.map (·.held)).sum + 1)) →
            c'.stacked = c.stacked ∧ c'.lost = satInc c.lost))
      ∧ ((s.job.job.lanes ≤ k.val ∨ r.lanes[k.val].outcome ≠ some .stack) →
          c'.stacked = c.stacked ∧ c'.lost = c.lost))
  ∧ (∀ (s : State) (r : Record) (k : Fin 8),
    (r.lanes[k.val].outcome ≠ some .stack → s.arriveLane r k = s)
    ∧ ∀ n, r.lanes[k.val].outcome = some .stack → r.lanes[k.val].stackRef = some n →
      s.arriveLane r k = (s.landLabel k n).2.charge k
        (if (s.landLabel k n).1 = true then .stacked else .lost))
  ∧ (∀ (s : State) (k : Fin 8) (n : Nat),
    let l := s.lane k
    (l.state = .fault → s.landLabel k n = (false, s))
    ∧ ((∀ x ∈ l.list, x.number ≠ n) → s.landLabel k n = (false, s))
    ∧ ∀ (older younger : List StackRec) (x : StackRec), l.state = .ready → l.list = older ++ x :: younger →
      x.number = n → (∀ y ∈ older ++ younger, y.number ≠ n) →
      let changing : Bool := l.list.head?.any (·.state == .changing)
      let list := older ++ { x with
        arrived := x.arrived + 1, held := if changing then x.held + 1 else x.held } :: younger
      let u : State := { s with stk := { s.stk with lanes := s.stk.lanes.set k.val { l with list } } }
      let overrun : Bool := changing && decide ((s.cfg k).holdLimit < (list.map (·.held)).sum)
      (overrun = true → s.landLabel k n = (false, u.faultLane k .holdOverrun))
      ∧ (overrun = false → s.landLabel k n = (true, u.requestChange k)))
  ∧ ∀ (s : State) (r : Record) (k : Fin 8) (gone rest : List SerialRange),
    s.disp.lateGates[k.val] = gone ++ rest → (∀ x ∈ gone, behind x.last r.serial = true) →
    (∀ x ∈ rest.head?, behind x.last r.serial = false) →
    let left (u : State) (ranges : List SerialRange) : State :=
      { u with disp := { u.disp with lateGates := u.disp.lateGates.set k.val ranges } }
    (rest = [] → s.lateGateCharge r k = left s [])
    ∧ ∀ x more, rest = x :: more →
      ((x.last - x.first).toNat < (r.serial - x.first).toNat → s.lateGateCharge r k = left s rest)
      ∧ ((r.serial - x.first).toNat ≤ (x.last - x.first).toNat → s.lateGateCharge r k
          = left ((left s rest).lateInformation r k .lateGate) (if r.serial = x.last then more else rest))

/-- Every label is counted once: over any command but those that clear the lane counters, the labels counted and
still to be counted in a lane in use grow by the records created, and by nothing else (R111). -/
def Obligations.LabelsAreConserved : Prop :=
  ∀ (c : Instr) (s t : State) (k : Fin 8), s.QueueShape → s.CountersHaveRoom k →
    k.val < s.job.job.lanes → clearsLaneCounters c = false → exec c s = .next t →
    t.labelBalance k = s.labelBalance k + (t.track.nextSerial - s.track.nextSerial).toNat

/-! ## Stacking -/

/-- Step 11 in a sound lane: a label joins the ASSIGNING stack of its design, which fills at its target; opens a
stack where none is ASSIGNING and the list has room, and is turned away where it has none; and of another design
closes the ASSIGNING stack short first, becoming the first label of a change gap if there is one (R123 to R126,
R108). -/
def Obligations.LabelsJoinStacks : Prop :=
  ∀ (cfg : LaneCfg) (design : Nat) (l : StackLane), l.Sound →
    let opened : StackRec := { number := l.next, design, assigned := 1, arrived := 0, held := 0,
                               target := cfg.target, suspect := 0, short := false, requested := false,
                               state := if cfg.target = 1 then .filled else .assigning }
    let next := if l.next = 65535 then 1 else l.next + 1
    ((∀ x ∈ l.list, x.state ≠ .assigning) →
      (l.list.length < 4 → l.assign cfg design = (.stack l.next,
        { l with list := l.list ++ [opened], next,
                 gap := if cfg.target = 1 then cfg.changeGap else l.gap }))
      ∧ (l.list.length = 4 → l.assign cfg design = (.listFull, l)))
    ∧ ∀ (older : List StackRec) (r : StackRec), l.list = older ++ [r] → r.state = .assigning →
      (r.design = design → r.assigned + 1 ≠ r.target → l.assign cfg design = (.stack r.number,
        { l with list := older ++ [{ r with assigned := r.assigned + 1 }] }))
      ∧ (r.design = design → r.assigned + 1 = r.target → l.assign cfg design = (.stack r.number,
        { l with list := older ++ [{ r with assigned := r.assigned + 1, state := .filled }],
                 gap := cfg.changeGap }))
      ∧ (r.design ≠ design → 0 < cfg.changeGap → l.assign cfg design = (.gap,
        { l with list := older ++ [{ r with state := .filled, short := true }],
                 gap := cfg.changeGap - 1 }))
      ∧ (r.design ≠ design → cfg.changeGap = 0 → l.list.length < 4 →
        l.assign cfg design = (.stack l.next,
          { l with list := older ++ [{ r with state := .filled, short := true }, opened], next, gap := 0 }))
      ∧ (r.design ≠ design → cfg.changeGap = 0 → l.list.length = 4 →
        l.assign cfg design = (.listFull,
          { l with list := older ++ [{ r with state := .filled, short := true }], gap := 0 }))

/-- STKREADY and CHANGE_TIMER_EXPIRY complete. A STKREADY that names a lane's CHANGING stack ends the change: the
record goes, the timer stops, the held counts are 0, STACK_DONE is queued and the next change asked for where it is
due; any other is counted STRAY_READY. A timer that has reached its timeout faults its lane with cause TIMEOUT, and
one that has not, or is stopped, does nothing; a STKREADY behind such a timeout finds the lane faulted. A job in
ENDING whose queue and stack lists are then all empty returns to ARMED (R130, R132, R133, R135, R138, R162). The
expiry is an event of its own (log entry 4), and STACKER_FAULT goes before JOB_STATE (log entry 12). -/
def Obligations.ChangesEndOrExpire : Prop :=
  ∀ (s : State) (k : Fin 8),
    let completed (u : State) : State :=
      if u.job.state = .ending ∧ u.track.queue = [] ∧ ∀ j : Fin 8, (u.lane j).list = [] then
        ({ u with job := { u.job with state := .armed, cause := .none } } : State).notify .jobState none 1#32
      else u
    let due : Bool := (s.lane k).timer.any fun x => decide (x.timeout ≤ x.count)
    let faulted : StackLane := { state := .fault, cause := .timeout, gap := 0, next := (s.lane k).next,
                                 timer := none, list := [] }
    let expired : State := completed (({ s with
        stk := { s.stk with lanes := s.stk.lanes.set k.val faulted }
        sched := { s.sched with stack := s.sched.stack.filter (·.lane != k) } } : State).notify
      .stackerFault (some k) 2#32)
    (due = false → exec (.changeTimerExpiry k) s = .next s)
    ∧ (due = true → exec (.changeTimerExpiry k) s = .next expired)
    ∧ (s.addressed = true → ∀ (lane : Byte) (number : Half),
      (8 ≤ lane.toNat → exec (.stkready lane number) s
        = .next { s with stk := { s.stk with strayReady := satInc s.stk.strayReady } })
      ∧ (lane.toNat = k.val → due = true → exec (.stkready lane number) s
        = .next { expired with stk := { expired.stk with strayReady := satInc expired.stk.strayReady } })
      ∧ (lane.toNat = k.val → due = false →
        (∀ (r : StackRec) (rest : List StackRec), (s.lane k).list = r :: rest → r.state = .changing →
          r.number = number.toNat →
          let list := rest.map fun x => { x with held := 0 }
          let l : StackLane := { s.lane k with list := changeAsked list, timer := none }
          exec (.stkready lane number) s = .next (completed { s with
            stk := { s.stk with lanes := s.stk.lanes.set k.val l }
            sched := { s.sched.notify .stackDone (some k) (BitVec.ofNat 32 number.toNat) with
              stack := s.sched.stack ++ changeItems k list } }))
        ∧ ((∀ (r : StackRec) (rest : List StackRec), (s.lane k).list = r :: rest →
            ¬(r.state = .changing ∧ r.number = number.toNat)) →
          exec (.stkready lane number) s
            = .next { s with stk := { s.stk with strayReady := satInc s.stk.strayReady } })))

/-- STKFAULT of a READY lane faults it with cause NODE: its stacks, timer, gap and STACK item go, the next stack
number stays, and a STACKER_FAULT notice is queued; a job in ENDING whose queue and stack lists are then all empty
returns to ARMED; a lane in FAULT or above 7 is left as it stands (R134). A fault of any cause does the same with
its own cause (R135, R138, R162; the order of the two notices by log entry 12). -/
def Obligations.NodeFaultsAReadyLane : Prop :=
  let fault (k : Fin 8) (cause : FaultCause) (s : State) : State :=
    let l : StackLane := { state := .fault, cause, gap := 0, next := (s.lane k).next, timer := none, list := [] }
    let code : Word := match cause with
      | .none => 0#32
      | .holdOverrun => 1#32
      | .timeout => 2#32
      | .node => 3#32
    let u : State := ({ s with
        stk := { s.stk with lanes := s.stk.lanes.set k.val l }
        sched := { s.sched with stack := s.sched.stack.filter (·.lane != k) } } : State).notify
      .stackerFault (some k) code
    if u.job.state = .ending ∧ u.track.queue = [] ∧ ∀ j : Fin 8, (u.lane j).list = [] then
      ({ u with job := { u.job with state := .armed, cause := .none } } : State).notify .jobState none 1#32
    else u
  (∀ (s : State) (k : Fin 8) (cause : FaultCause), s.faultLane k cause = fault k cause s)
  ∧ ∀ (lane : Byte) (s : State), s.addressed = true →
    (8 ≤ lane.toNat → exec (.stkfault lane) s = .next s)
    ∧ ∀ k : Fin 8, lane.toNat = k.val →
      ((s.lane k).state = .fault → exec (.stkfault lane) s = .next s)
      ∧ ((s.lane k).state = .ready → exec (.stkfault lane) s = .next (fault k .node s))

/-- LANE_ENABLE and CLOSE_STACK complete: the first returns a lane in FAULT to READY and leaves a READY lane; the
second closes the ASSIGNING stack short, sets the gap and asks for the change where it is due, or is refused
WRONG_STATE; a lane above 7 is refused BAD_LANE. The test of a lane's change marks its oldest record requested and
queues its STACK item where the change is due, and does nothing else (R130, R136, R137). -/
def Obligations.LanesEnabledAndClosed : Prop :=
  (∀ (s : State) (k : Fin 8), s.requestChange k = { s with
    stk := { s.stk with
      lanes := s.stk.lanes.set k.val { s.lane k with list := changeAsked (s.lane k).list } }
    sched := { s.sched with stack := s.sched.stack ++ changeItems k (s.lane k).list } })
  ∧ ∀ (lane : Byte) (s : State), s.addressed = true →
    (8 ≤ lane.toNat → exec (.laneEnable lane) s = .next (s.reply .badLane)
      ∧ exec (.closeStack lane) s = .next (s.reply .badLane))
    ∧ ∀ k : Fin 8, lane.toNat = k.val →
      let enabled : StackLane := { s.lane k with state := .ready, cause := .none }
      let list := (s.lane k).list.map fun x =>
        if x.state = .assigning then { x with state := .filled, short := true } else x
      let closed : StackLane := { s.lane k with list := changeAsked list, gap := (s.cfg k).changeGap }
      ((s.lane k).state = .ready → exec (.laneEnable lane) s = .next (s.reply .ok))
      ∧ ((s.lane k).state = .fault → exec (.laneEnable lane) s = .next
        (({ s with stk := { s.stk with lanes := s.stk.lanes.set k.val enabled } } : State).reply .ok))
      ∧ ((∀ x ∈ (s.lane k).list, x.state ≠ .assigning) →
        exec (.closeStack lane) s = .next (s.reply .wrongState))
      ∧ ((∃ x ∈ (s.lane k).list, x.state = .assigning) → exec (.closeStack lane) s = .next
        (({ s with
            stk := { s.stk with lanes := s.stk.lanes.set k.val closed }
            sched := { s.sched with stack := s.sched.stack ++ changeItems k list } } : State).reply .ok))

/-! ## Output -/

/-- An offer first drops the late heads of the KNIFE queue, each with the effects of a late cut, and then sends
the head that is not late: its slot is written and its record becomes SENT (R143 step 1, R144; log entries 2
and 21 for the slot as written). -/
def Obligations.OfferSendsTheKnifeHead : Prop :=
  ∀ (slot : BitVec 5) (s : State) (x : KnifeItem) (rest : List KnifeItem), s.addressed = true →
    s.sched.knife = x :: rest →
    let late := beyond s.track.pos (shift x.cutPos (-(s.job.station.knifeLead : Int)))
    (late = false → exec (.ownEmptySlotOffer slot) s = .next
      (({ s with
          sched := { s.sched with knife := rest }
          track := { s.track with queue := s.track.queue.map fun r =>
            if r.serial = x.serial then { r with cut := .sent } else r } } : State).fillSlot slot.toNat
        ([0x20#8, BitVec.ofNat 8 s.job.station.knifeNode] ++ beBytes 4 x.serial.toNat
          ++ beBytes 4 x.cutPos.toNat ++ List.replicate 6 0#8)))
    ∧ (late = true → exec (.ownEmptySlotOffer slot) s = exec (.ownEmptySlotOffer slot)
      (({ s with
          sched := { s.sched with knife := rest }
          track := { s.track with queue := s.track.queue.map fun r =>
            if r.serial = x.serial then { r with cut := .late, check := .noCheck } else r } }
        : State).lateCutEffects x.serial))

/-- An offer that finds the KNIFE queue empty sends the head of the queue that the ladder chooses: a GATE item, a
late one counted and its range recorded; a STACK item, whose record becomes CHANGING with its timer started; a NOTICE
item, with its kind's code of Table 11-13; or passes the slot on EMPTY (R114, R131, R143, R145 to R147, R180). The
slot as written stands in fields of the model's choice (log entries 2 and 21). -/
def Obligations.OfferSendsTheChosenHead : Prop :=
  ∀ (slot : BitVec 5) (s : State), s.addressed = true → s.sched.knife = [] →
    let q := s.sched.choose.2
    let kind : NoticeKind → Byte
      | .jobState => 0x01#8
      | .regState => 0x02#8
      | .pitchAlarm => 0x03#8
      | .stackDone => 0x04#8
      | .stackerFault => 0x05#8
      | .lateCut => 0x06#8
      | .lateInfo => 0x07#8
      | .designSlip => 0x08#8
      | .zoneMerge => 0x09#8
      | .linkDown => 0x0A#8
    (s.sched.choose.1 = none → exec (.ownEmptySlotOffer slot) s = .next
      { s with sched := q, link := { s.link with slotOut := none } })
    ∧ (∀ x rest, s.sched.choose.1 = some .gate → s.sched.gate = x :: rest →
      let u : State := { s with sched := { q with gate := rest } }
      let late := beyond s.track.pos (shift x.openPos (-(s.job.station.gateLead : Int)))
      let bytes := [BitVec.ofNat 8 (0x30 + x.lane.val), BitVec.ofNat 8 s.job.station.gateNode]
        ++ beBytes 4 x.openPos.toNat ++ beBytes 4 x.closePos.toNat ++ beBytes 4 x.first.toNat
        ++ beBytes 2 (x.last.toNat % 65536)
      (late = false → exec (.ownEmptySlotOffer slot) s = .next (u.fillSlot slot.toNat bytes))
      ∧ (late = true → exec (.ownEmptySlotOffer slot) s = .next
        (({ u with disp := { s.disp with
            counters := s.disp.counters.set x.lane.val (s.disp.counters[x.lane.val].bump .lateGate)
            lateGates := s.disp.lateGates.set x.lane.val
              (s.disp.lateGates[x.lane.val] ++ [{ first := x.first, last := x.last }]) } }
          : State).fillSlot slot.toNat bytes)))
    ∧ (∀ x rest r older younger, s.sched.choose.1 = some .stack → s.sched.stack = x :: rest →
      (s.lane x.lane).list = older ++ r :: younger → r.number = x.number →
      (∀ y ∈ older, y.number ≠ x.number) →
      let l : StackLane := { s.lane x.lane with
        list := older ++ { r with state := .changing } :: younger
        timer := some { count := 0, timeout := (s.cfg x.lane).timeout } }
      exec (.ownEmptySlotOffer slot) s = .next
        (({ s with
            sched := { q with stack := rest }
            stk := { s.stk with lanes := s.stk.lanes.set x.lane.val l } }
          : State).fillSlot slot.toNat
          ([0x40#8, BitVec.ofNat 8 (s.cfg x.lane).node, BitVec.ofNat 8 x.lane.val]
            ++ beBytes 2 r.number ++ beBytes 2 r.arrived
            ++ [if 0 < r.suspect then 1#8 else 0#8, if r.short then 1#8 else 0#8]
            ++ List.replicate 7 0#8)))
    ∧ ∀ x rest, s.sched.choose.1 = some .notice → s.sched.notices = x :: rest →
      exec (.ownEmptySlotOffer slot) s = .next
        (({ s with sched := { q with notices := rest } } : State).fillSlot slot.toNat
          ([0x50#8, 0#8, kind x.kind,
            match x.lane with
            | some k => BitVec.ofNat 8 k.val
            | none => 0xFF#8, BitVec.ofNat 8 x.count] ++ beBytes 4 x.value.toNat ++ List.replicate 7 0#8))

/-- The ladder of GATE, STACK and NOTICE: with weights of at least 1 some waiting queue is always chosen; a waiting
STRICT queue goes before every RATIO queue and costs no credit; a RATIO choice has credit, reloaded only where
every waiting RATIO queue has none, and spends one; and among the queues that a step may choose the first in the
order GATE, STACK, NOTICE is chosen (R143 steps 2 to 4, R148). -/
def Obligations.LadderChoosesAWaitingQueue : Prop :=
  ∀ q : Scheduler, (∀ e ∈ q.table.toList, 1 ≤ e.weight) →
    let place : Source → Nat
      | .gate => 0
      | .stack => 1
      | .notice => 2
    let spent (p : Scheduler) : Source → Scheduler
      | .gate => { p with gateCredit := p.gateCredit - 1 }
      | .stack => { p with stackCredit := p.stackCredit - 1 }
      | .notice => { p with noticeCredit := p.noticeCredit - 1 }
    let loaded (e : SchedEntry) : Nat := if e.mode = .ratio then e.weight else 0
    let reloaded : Scheduler := { q with
      gateCredit := loaded q.table[0], stackCredit := loaded q.table[1], noticeCredit := loaded q.table[2] }
    (∀ x, (q.waiting x = true ↔ match x with
        | .gate => q.gate ≠ []
        | .stack => q.stack ≠ []
        | .notice => q.notices ≠ [])
      ∧ (q.entry x = match x with
        | .gate => q.table[0]
        | .stack => q.table[1]
        | .notice => q.table[2])
      ∧ q.credit x = match x with
        | .gate => q.gateCredit
        | .stack => q.stackCredit
        | .notice => q.noticeCredit)
    ∧ (q.choose.1 = none ↔ q.gate = [] ∧ q.stack = [] ∧ q.notices = [])
    ∧ (q.choose.1 = none → q.choose.2 = q)
    ∧ (∀ x, q.choose.1 = some x → q.waiting x = true)
    ∧ (∀ x, q.waiting x = true → (q.entry x).mode = .strict →
        (∀ y, place y < place x → q.waiting y = true → (q.entry y).mode = .ratio) →
        q.choose = (some x, q))
    ∧ ((∀ y, q.waiting y = true → (q.entry y).mode = .ratio) →
        (∀ x, q.waiting x = true → 0 < q.credit x →
          (∀ y, place y < place x → q.waiting y = true → q.credit y = 0) →
          q.choose = (some x, spent q x))
        ∧ ∀ x, q.waiting x = true → (∀ y, q.waiting y = true → q.credit y = 0) →
          (∀ y, place y < place x → q.waiting y = false) →
          q.choose = (some x, spent reloaded x))

/-- A notice raises the count, to at most 255, of the waiting item of its kind and lane, which keeps its place and
value; else it joins the tail with count 1 while fewer than 16 items wait; else it is dropped and counted
(R151). -/
def Obligations.NoticesCoalesceJoinOrDrop : Prop :=
  ∀ (kind : NoticeKind) (lane : Option (Fin 8)) (value : Word) (q : Scheduler),
    (∀ (before after : List Notice) (n : Notice), q.notices = before ++ n :: after → n.kind = kind →
      n.lane = lane → (∀ x ∈ before, ¬(x.kind = kind ∧ x.lane = lane)) →
      q.notify kind lane value
        = { q with notices := before ++
            { n with count := if n.count < 255 then n.count + 1 else n.count } :: after })
    ∧ ((∀ x ∈ q.notices, ¬(x.kind = kind ∧ x.lane = lane)) →
      (q.notices.length < 16 → q.notify kind lane value
        = { q with notices := q.notices ++ [{ kind, lane, count := 1, value }] })
      ∧ (16 ≤ q.notices.length → q.notify kind lane value
        = { q with noticesDropped := satInc q.noticesDropped }))

/-! ## Jobs -/

/-- ARM completes: in CONFIG it makes the checks of Table 9-5 in their order, answers BAD_JOB with the reason of
the first that fails, and otherwise records the validated limit and arms the job; in any other state it is refused
WRONG_STATE (R156, R158, R159). -/
def Obligations.ArmChecksInOrder : Prop :=
  ∀ s : State, s.addressed = true →
    let j := s.job.job
    let t := s.job.station
    let l := s.job.loop
    let ok : Fin 9 → Bool := fun i =>
      match i with
      | 0 => decide (1 ≤ j.lanes ∧ j.lanes ≤ 8 ∧ 1 ≤ j.cycle ∧ j.cycle ≤ 16)
      | 1 => decide (2000 ≤ j.pitch ∧ j.pitch ≤ 60000 ∧ j.m2c < j.pitch)
      | 2 => decide (100 ≤ j.window ∧ 8 * j.window ≤ j.pitch)
      | 3 => decide (t.dC ≤ t.dK ∧ t.dK < t.dX ∧ t.dX < t.dS ∧ t.dK < t.dG ∧ t.dG < t.dS ∧ t.dS ≤ 400000)
      | 4 => decide (t.knifeLead < t.knifeHorizon ∧ t.gateLead < t.gateHorizon)
      | 5 => decide (j.window + t.knifeHorizon + l.limit ≤ t.dK)
      | 6 => decide (t.dK + j.pitch + 2 * j.window + l.limit + t.gateHorizon ≤ t.dG)
      | 7 => decide (t.dS + 2 * j.pitch + l.limit + j.window ≤ 254 * (j.pitch - j.window))
      | 8 => decide (j.lowThreshold < j.highThreshold ∧ l.lockTolerance < l.unlockTolerance)
    (s.job.state = .config → (∀ i, ok i = true) →
      exec .arm s = .next ((({ s with job := { s.job with
          state := .armed, cause := .none, validated := l.limit } } : State).notify .jobState none 1#32).reply
        .ok))
    ∧ (∀ i, s.job.state = .config → ok i = false → (∀ i', i' < i → ok i' = true) →
      exec .arm s = .next (s.answer .badJob [BitVec.ofNat 8 (i.val + 1)]))
    ∧ (s.job.state ≠ .config → exec .arm s = .next (s.reply .wrongState))

/-- START in ARMED, RESUME in HOLD and CLEAR in ARMED or HOLD complete with the state that each leaves, and are
refused WRONG_STATE elsewhere (R24, R25, R38, R45, R63, R85, R114, R140, R156, R160, R167, R168). That the JOB_STATE
notice goes before the REG_STATE notice is the model's (log entry 12). -/
def Obligations.StartResumeAndClear : Prop :=
  ∀ s : State, s.addressed = true →
    (s.job.state = .armed → ∃ (t : State) (notices : Scheduler), exec .start s = .next (t.reply .ok)
      ∧ t = { s with
          job := { s.job with state := .run, cause := .none }
          reg := { s.reg with state := .free, lastAnchor := s.track.pos, lastOrigin := none, missing := 0,
                              samples := [], cyclePending := false, firstRecord := true }
          cut := { s.cut with integral := 0, target := 0, applied := 0,
                              ramp := max 1 (s.job.loop.maxStep / 32) }
          sched := notices }
      ∧ notices = (if s.reg.state = .free then s.sched.notify .jobState none 2#32
          else (s.sched.notify .jobState none 2#32).notify .regState none 0#32))
    ∧ (s.job.state = .hold → ∃ (t : State) (notices : Scheduler), exec .resume s = .next (t.reply .ok)
      ∧ t = { s with
          job := { s.job with state := .run, cause := .none }
          reg := { s.reg with state := .free, lastAnchor := s.track.pos, lastOrigin := none, missing := 0,
                              samples := [], cyclePending := false }
          cut := { s.cut with ramp := max 1 (s.job.loop.maxStep / 32) }
          sched := notices }
      ∧ notices = (if s.reg.state = .free then s.sched.notify .jobState none 2#32
          else (s.sched.notify .jobState none 2#32).notify .regState none 0#32))
    ∧ ((s.job.state = .armed ∨ s.job.state = .hold) → s.track.queue = [] →
      ∃ (t : State) (notices : Scheduler), exec .clear s = .next (t.reply .ok)
      ∧ t = { s with
          job := { s.job with state := .config, cause := .none }
          track := { s.track with zones := [] }
          reg := { s.reg with state := .free, lastAnchor := 0#32, lastOrigin := none, missing := 0,
                              samples := [], cyclePending := false, firstRecord := false }
          disp := { s.disp with lateGates := Vector.replicate 8 [] }
          stk := { s.stk with lanes := s.stk.lanes.map fun l =>
            { l with list := [], timer := none, gap := 0 } }
          sched := notices }
      ∧ notices = { (if s.reg.state = .free then s.sched.notify .jobState none 0#32
          else (s.sched.notify .jobState none 0#32).notify .regState none 0#32) with stack := [] })
    ∧ (s.job.state ≠ .armed → exec .start s = .next (s.reply .wrongState))
    ∧ (s.job.state ≠ .hold → exec .resume s = .next (s.reply .wrongState))
    ∧ (s.job.state ≠ .armed → s.job.state ≠ .hold → exec .clear s = .next (s.reply .wrongState))

/-- END in RUN completes: the youngest record becomes the tail, closed one repeat after its start with the listed
zones applied to it and those that end behind that end removed, and the job is ENDING; with an empty queue the
end-of-job closing follows at once; in any other state it is refused WRONG_STATE. The end-of-job closing closes
every ASSIGNING stack short, sets every gap to 0, asks for every change that is due, and returns the job to ARMED if
every stack list is empty (R47, R59, R61, R69, R75, R130, R138, R156, R161, R162). Its STACK items join in lane
order, the model's choice (log entry 26). -/
def Obligations.EndMarksTheTail : Prop :=
  (∀ s : State, s.addressed = true →
    (s.job.state = .run → s.track.queue = [] →
      exec .endJob s = .next ((({ s with job := { s.job with state := .ending, cause := .none } }
        : State).notify .jobState none 3#32).endOfJobClosing.reply .ok))
    ∧ (∀ (older : List Record) (r : Record), s.job.state = .run → s.track.queue = older ++ [r] →
      s.SerialsApart →
      let stop := shift r.nominalStart s.job.job.pitch
      let hits (z : Zone) : Bool := behind z.lo stop && atOrBeyond z.hi r.nominalStart
      let marked : State := { s with track := { s.track with queue := older ++ [{ r with tail := true }] } }
      let ends (u : State) : State :=
        ({ u with job := { s.job with state := .ending, cause := .none } } : State).notify .jobState none 3#32
      exec .endJob s = .next ((ends (marked.closeRecord r stop)).reply .ok)
      ∧ (r.commit = .uncommitted → marked.closeRecord r stop = { s with track := { s.track with
          queue := older ++ [{ r with
            tail := true
            nominalEnd := some stop
            lanes := Vector.ofFn fun k : Fin 8 =>
              { r.lanes[k.val] with
                defect := r.lanes[k.val].defect
                  || s.track.zones.any fun z => z.kind == .defect && hits z && inLaneSet z.lanes k
                splice := r.lanes[k.val].splice
                  || s.track.zones.any fun z => z.kind == .splice && hits z && inLaneSet z.lanes k } }]
          zones := s.track.zones.filter fun z => !behind z.hi stop
          stale := satInc^[(s.track.zones.filter fun z =>
            behind z.hi stop && behind z.hi r.nominalStart).length] s.track.stale } }))
    ∧ (s.job.state ≠ .run → exec .endJob s = .next (s.reply .wrongState)))
  ∧ ∀ s : State,
    let completed (u : State) : State :=
      if u.job.state = .ending ∧ u.track.queue = [] ∧ ∀ j : Fin 8, (u.lane j).list = [] then
        ({ u with job := { u.job with state := .armed, cause := .none } } : State).notify .jobState none 1#32
      else u
    let list (k : Fin 8) : List StackRec := (s.lane k).list.map fun x =>
      if x.state = .assigning then { x with state := .filled, short := true } else x
    s.endOfJobClosing = completed { s with
      stk := { s.stk with lanes := Vector.ofFn fun k : Fin 8 =>
        { s.lane k with list := changeAsked (list k), gap := 0 } }
      sched := { s.sched with stack := s.sched.stack ++ allLanes.flatMap fun k => changeItems k (list k) } }

/-! ## What every command keeps -/

/-- No command lets a queue or list pass its capacity, two notices of a kind and lane wait together, or a credit
or weight leave its range; and every command keeps the hold cause agreed with the job state, and HOLD without KNIFE
or GATE commands and late gates. The STACK queue, which holds one item a lane at most where the stacking unit is
sound, never passes its 8 places (R41, R65, R114, R130, R142, R148 to R151, R153, R155). -/
def Obligations.CapacitiesAndHoldsAreKept : Prop :=
  ∀ s t : State, step s = .next t →
    (s.CapacitiesHold → s.sched.NoticesApart → s.sched.CreditsFit →
      t.CapacitiesHold ∧ t.sched.NoticesApart ∧ t.sched.CreditsFit)
    ∧ (s.StackingSound → t.sched.stack.length ≤ 8)
    ∧ (s.CauseAgrees → s.HoldIsQuiet → t.CauseAgrees ∧ t.HoldIsQuiet)

/-- Every command keeps the shape of the repeat queue: consecutive serials, extents that meet, the open record
youngest in RUN and the tail in ENDING, commits in serial order, labels decided exactly by the commit, and an empty
queue in CONFIG, ARMED and HOLD (R41, R43, R45, R47, R49, R56, R59). -/
def Obligations.QueueShapeIsKept : Prop :=
  ∀ s t : State, s.QueueShape → step s = .next t → t.QueueShape

/-- Every command keeps the anchors strictly increasing along the queue (R30, R32, R41). -/
def Obligations.AnchorsKeepRising : Prop :=
  ∀ s t : State, s.AnchorsRise → step s = .next t → t.AnchorsRise

/-- Every command keeps the target, the applied correction, the integral and the ramp within their bounds
(R84). -/
def Obligations.LoopStaysBounded : Prop :=
  ∀ s t : State, s.LoopBounded → step s = .next t → t.LoopBounded

/-- From a sound stacking unit no command faults, and every command leaves it sound: at most four stacks a lane,
the oldest alone in change with the timer running, one STACK item for each change requested, lanes in FAULT empty
(R121, R122, R130, R135, R146; log entry 14). -/
def Obligations.StackingStaysSound : Prop :=
  ∀ s : State, s.StackingSound → ∃ t, step s = .next t ∧ t.StackingSound

/-- The machine right after reset meets every invariant of these statements, for every reading of the straps: with
the values that R33, R41, R45, R65, R84, R114, R119, R121, R142, R148, R149, R155 and R171 give for power-on. -/
def Obligations.ResetMeetsTheInvariants : Prop :=
  ∀ straps : BitVec 6, let s := State.powerOn straps
    s.CapacitiesHold ∧ s.sched.NoticesApart ∧ s.sched.CreditsFit ∧ s.CauseAgrees ∧ s.HoldIsQuiet
      ∧ s.QueueShape ∧ s.AnchorsRise ∧ s.LoopBounded ∧ s.StackingSound

/-- But for power-on reset: the node address never changes; each table changes only by a WRITE of it, JOB, STATION
and SENSOR only in CONFIG and DISP only in CONFIG and ARMED; P changes only by WEBPOS and RESET, and the next serial
only by WEBPOS, MARKEV and RESET; and the job state moves, but for RESET, only by these commands: ARM to ARMED, START
and RESUME to RUN, CLEAR to CONFIG, END to ENDING and, with nothing left, at once to ARMED, the completion of an
ENDING to ARMED at an advance, a STKREADY, a STKFAULT or a timeout, and to HOLD by a report, a mark that finds the
queue full, a WEBBREAK, a HALT or a link loss (R4, R9, R10, R17, R45, R48, R61, R80, R102, R103, R119, R149, R155 to
R157, R161 to R163, R171). The two resets are RESET and power-on reset. -/
def Obligations.OnlyTheseCommandsChangeThese : Prop :=
  ∀ (c : Instr) (s t : State), exec c s = .next t → (∀ straps, c ≠ .powerOnReset straps) →
    let writes (w : Half → Byte → List Byte → Instr) : Prop := ∃ index count data, c = w index count data
    let reports : Prop := ∃ p, c = .webpos p
    t.link.node = s.link.node
    ∧ (t.job.job ≠ s.job.job → s.job.state = .config ∧ writes .writeJob)
    ∧ (t.job.station ≠ s.job.station → s.job.state = .config ∧ writes .writeStation)
    ∧ (t.job.loop ≠ s.job.loop → writes .writeLoop)
    ∧ (t.reg.edges ≠ s.reg.edges → s.job.state = .config ∧ writes .writeSensor)
    ∧ (t.stk.cfg ≠ s.stk.cfg → writes .writeLane)
    ∧ (t.disp.disp ≠ s.disp.disp →
        (s.job.state = .config ∨ s.job.state = .armed) ∧ writes .writeDisp)
    ∧ (t.disp.overrides ≠ s.disp.overrides → writes .writeOverride)
    ∧ (t.sched.table ≠ s.sched.table → writes .writeSched)
    ∧ (c ≠ .softReset → t.track.pos ≠ s.track.pos → reports)
    ∧ (c ≠ .softReset → t.track.nextSerial ≠ s.track.nextSerial →
        reports ∨ ∃ channel edge p, c = .markev channel edge p)
    ∧ (c ≠ .softReset → t.job.state ≠ s.job.state →
        match s.job.state, t.job.state with
        | .config, .armed => c = .arm
        | .armed, .run => c = .start
        | .armed, .config => c = .clear
        | .hold, .config => c = .clear
        | .hold, .run => c = .resume
        | .run, .ending => c = .endJob
        | .run, .armed => c = .endJob
        | .ending, .armed => reports ∨ (∃ lane number, c = .stkready lane number)
            ∨ (∃ lane, c = .stkfault lane) ∨ ∃ k, c = .changeTimerExpiry k
        | .run, .hold => reports ∨ (∃ channel edge p, c = .markev channel edge p) ∨ c = .webbreak
            ∨ c = .halt ∨ c = .linkLossTimerExpiry
        | .ending, .hold => reports ∨ c = .webbreak ∨ c = .halt ∨ c = .linkLossTimerExpiry
        | _, _ => False)
end

