-- ==== Sys2Proof/Laws/State.lean ====
section
/-! SUPPORT. One lemma per field of State for each change of one block, one lane, one counter or one record,
all true by unfolding, so that a proof never opens a record update. -/

namespace Sys2Proof.Machine

variable (s : State)

/-! ## A change of the link port's state -/

@[simp] theorem State.onLink_link (f : LinkPort → LinkPort) : (s.onLink f).link = f s.link := rfl
@[simp] theorem State.onLink_track (f : LinkPort → LinkPort) : (s.onLink f).track = s.track := rfl
@[simp] theorem State.onLink_reg (f : LinkPort → LinkPort) : (s.onLink f).reg = s.reg := rfl
@[simp] theorem State.onLink_cut (f : LinkPort → LinkPort) : (s.onLink f).cut = s.cut := rfl
@[simp] theorem State.onLink_disp (f : LinkPort → LinkPort) : (s.onLink f).disp = s.disp := rfl
@[simp] theorem State.onLink_stk (f : LinkPort → LinkPort) : (s.onLink f).stk = s.stk := rfl
@[simp] theorem State.onLink_sched (f : LinkPort → LinkPort) : (s.onLink f).sched = s.sched := rfl
@[simp] theorem State.onLink_job (f : LinkPort → LinkPort) : (s.onLink f).job = s.job := rfl
@[simp] theorem State.onLink_pending (f : LinkPort → LinkPort) : (s.onLink f).pending = s.pending := rfl

/-! ## A change of the tracking unit's state -/

@[simp] theorem State.onTrack_link (f : Tracking → Tracking) : (s.onTrack f).link = s.link := rfl
@[simp] theorem State.onTrack_track (f : Tracking → Tracking) : (s.onTrack f).track = f s.track := rfl
@[simp] theorem State.onTrack_reg (f : Tracking → Tracking) : (s.onTrack f).reg = s.reg := rfl
@[simp] theorem State.onTrack_cut (f : Tracking → Tracking) : (s.onTrack f).cut = s.cut := rfl
@[simp] theorem State.onTrack_disp (f : Tracking → Tracking) : (s.onTrack f).disp = s.disp := rfl
@[simp] theorem State.onTrack_stk (f : Tracking → Tracking) : (s.onTrack f).stk = s.stk := rfl
@[simp] theorem State.onTrack_sched (f : Tracking → Tracking) : (s.onTrack f).sched = s.sched := rfl
@[simp] theorem State.onTrack_job (f : Tracking → Tracking) : (s.onTrack f).job = s.job := rfl
@[simp] theorem State.onTrack_pending (f : Tracking → Tracking) : (s.onTrack f).pending = s.pending := rfl

/-! ## A change of the registration unit's state -/

@[simp] theorem State.onReg_link (f : Registration → Registration) : (s.onReg f).link = s.link := rfl
@[simp] theorem State.onReg_track (f : Registration → Registration) : (s.onReg f).track = s.track := rfl
@[simp] theorem State.onReg_reg (f : Registration → Registration) : (s.onReg f).reg = f s.reg := rfl
@[simp] theorem State.onReg_cut (f : Registration → Registration) : (s.onReg f).cut = s.cut := rfl
@[simp] theorem State.onReg_disp (f : Registration → Registration) : (s.onReg f).disp = s.disp := rfl
@[simp] theorem State.onReg_stk (f : Registration → Registration) : (s.onReg f).stk = s.stk := rfl
@[simp] theorem State.onReg_sched (f : Registration → Registration) : (s.onReg f).sched = s.sched := rfl
@[simp] theorem State.onReg_job (f : Registration → Registration) : (s.onReg f).job = s.job := rfl
@[simp] theorem State.onReg_pending (f : Registration → Registration) : (s.onReg f).pending = s.pending := rfl

/-! ## A change of the cut controller's state -/

@[simp] theorem State.onCut_link (f : CutControl → CutControl) : (s.onCut f).link = s.link := rfl
@[simp] theorem State.onCut_track (f : CutControl → CutControl) : (s.onCut f).track = s.track := rfl
@[simp] theorem State.onCut_reg (f : CutControl → CutControl) : (s.onCut f).reg = s.reg := rfl
@[simp] theorem State.onCut_cut (f : CutControl → CutControl) : (s.onCut f).cut = f s.cut := rfl
@[simp] theorem State.onCut_disp (f : CutControl → CutControl) : (s.onCut f).disp = s.disp := rfl
@[simp] theorem State.onCut_stk (f : CutControl → CutControl) : (s.onCut f).stk = s.stk := rfl
@[simp] theorem State.onCut_sched (f : CutControl → CutControl) : (s.onCut f).sched = s.sched := rfl
@[simp] theorem State.onCut_job (f : CutControl → CutControl) : (s.onCut f).job = s.job := rfl
@[simp] theorem State.onCut_pending (f : CutControl → CutControl) : (s.onCut f).pending = s.pending := rfl

/-! ## A change of the disposition unit's state -/

@[simp] theorem State.onDisp_link (f : Disposition → Disposition) : (s.onDisp f).link = s.link := rfl
@[simp] theorem State.onDisp_track (f : Disposition → Disposition) : (s.onDisp f).track = s.track := rfl
@[simp] theorem State.onDisp_reg (f : Disposition → Disposition) : (s.onDisp f).reg = s.reg := rfl
@[simp] theorem State.onDisp_cut (f : Disposition → Disposition) : (s.onDisp f).cut = s.cut := rfl
@[simp] theorem State.onDisp_disp (f : Disposition → Disposition) : (s.onDisp f).disp = f s.disp := rfl
@[simp] theorem State.onDisp_stk (f : Disposition → Disposition) : (s.onDisp f).stk = s.stk := rfl
@[simp] theorem State.onDisp_sched (f : Disposition → Disposition) : (s.onDisp f).sched = s.sched := rfl
@[simp] theorem State.onDisp_job (f : Disposition → Disposition) : (s.onDisp f).job = s.job := rfl
@[simp] theorem State.onDisp_pending (f : Disposition → Disposition) : (s.onDisp f).pending = s.pending := rfl

/-! ## A change of the stacking unit's state -/

@[simp] theorem State.onStk_link (f : Stacking → Stacking) : (s.onStk f).link = s.link := rfl
@[simp] theorem State.onStk_track (f : Stacking → Stacking) : (s.onStk f).track = s.track := rfl
@[simp] theorem State.onStk_reg (f : Stacking → Stacking) : (s.onStk f).reg = s.reg := rfl
@[simp] theorem State.onStk_cut (f : Stacking → Stacking) : (s.onStk f).cut = s.cut := rfl
@[simp] theorem State.onStk_disp (f : Stacking → Stacking) : (s.onStk f).disp = s.disp := rfl
@[simp] theorem State.onStk_stk (f : Stacking → Stacking) : (s.onStk f).stk = f s.stk := rfl
@[simp] theorem State.onStk_sched (f : Stacking → Stacking) : (s.onStk f).sched = s.sched := rfl
@[simp] theorem State.onStk_job (f : Stacking → Stacking) : (s.onStk f).job = s.job := rfl
@[simp] theorem State.onStk_pending (f : Stacking → Stacking) : (s.onStk f).pending = s.pending := rfl

/-! ## A change of the output scheduler's state -/

@[simp] theorem State.onSched_link (f : Scheduler → Scheduler) : (s.onSched f).link = s.link := rfl
@[simp] theorem State.onSched_track (f : Scheduler → Scheduler) : (s.onSched f).track = s.track := rfl
@[simp] theorem State.onSched_reg (f : Scheduler → Scheduler) : (s.onSched f).reg = s.reg := rfl
@[simp] theorem State.onSched_cut (f : Scheduler → Scheduler) : (s.onSched f).cut = s.cut := rfl
@[simp] theorem State.onSched_disp (f : Scheduler → Scheduler) : (s.onSched f).disp = s.disp := rfl
@[simp] theorem State.onSched_stk (f : Scheduler → Scheduler) : (s.onSched f).stk = s.stk := rfl
@[simp] theorem State.onSched_sched (f : Scheduler → Scheduler) : (s.onSched f).sched = f s.sched := rfl
@[simp] theorem State.onSched_job (f : Scheduler → Scheduler) : (s.onSched f).job = s.job := rfl
@[simp] theorem State.onSched_pending (f : Scheduler → Scheduler) : (s.onSched f).pending = s.pending := rfl

/-! ## A change of the job controller's state -/

@[simp] theorem State.onJob_link (f : JobControl → JobControl) : (s.onJob f).link = s.link := rfl
@[simp] theorem State.onJob_track (f : JobControl → JobControl) : (s.onJob f).track = s.track := rfl
@[simp] theorem State.onJob_reg (f : JobControl → JobControl) : (s.onJob f).reg = s.reg := rfl
@[simp] theorem State.onJob_cut (f : JobControl → JobControl) : (s.onJob f).cut = s.cut := rfl
@[simp] theorem State.onJob_disp (f : JobControl → JobControl) : (s.onJob f).disp = s.disp := rfl
@[simp] theorem State.onJob_stk (f : JobControl → JobControl) : (s.onJob f).stk = s.stk := rfl
@[simp] theorem State.onJob_sched (f : JobControl → JobControl) : (s.onJob f).sched = s.sched := rfl
@[simp] theorem State.onJob_job (f : JobControl → JobControl) : (s.onJob f).job = f s.job := rfl
@[simp] theorem State.onJob_pending (f : JobControl → JobControl) : (s.onJob f).pending = s.pending := rfl

/-! ## A change of one lane, one record, one counter, one late-gate list -/

@[simp] theorem State.onLane_link (k : Fin 8) (f : StackLane → StackLane) :
    (s.onLane k f).link = s.link := rfl
@[simp] theorem State.onLane_track (k : Fin 8) (f : StackLane → StackLane) :
    (s.onLane k f).track = s.track := rfl
@[simp] theorem State.onLane_reg (k : Fin 8) (f : StackLane → StackLane) :
    (s.onLane k f).reg = s.reg := rfl
@[simp] theorem State.onLane_cut (k : Fin 8) (f : StackLane → StackLane) :
    (s.onLane k f).cut = s.cut := rfl
@[simp] theorem State.onLane_disp (k : Fin 8) (f : StackLane → StackLane) :
    (s.onLane k f).disp = s.disp := rfl
@[simp] theorem State.onLane_sched (k : Fin 8) (f : StackLane → StackLane) :
    (s.onLane k f).sched = s.sched := rfl
@[simp] theorem State.onLane_job (k : Fin 8) (f : StackLane → StackLane) :
    (s.onLane k f).job = s.job := rfl
@[simp] theorem State.onLane_pending (k : Fin 8) (f : StackLane → StackLane) :
    (s.onLane k f).pending = s.pending := rfl
@[simp] theorem State.onLane_cfg (k : Fin 8) (f : StackLane → StackLane) :
    (s.onLane k f).stk.cfg = s.stk.cfg := rfl
@[simp] theorem State.onLane_strayReady (k : Fin 8) (f : StackLane → StackLane) :
    (s.onLane k f).stk.strayReady = s.stk.strayReady := rfl
@[simp] theorem State.onRecord_link (n : Word) (f : Record → Record) :
    (s.onRecord n f).link = s.link := rfl
@[simp] theorem State.onRecord_reg (n : Word) (f : Record → Record) :
    (s.onRecord n f).reg = s.reg := rfl
@[simp] theorem State.onRecord_cut (n : Word) (f : Record → Record) :
    (s.onRecord n f).cut = s.cut := rfl
@[simp] theorem State.onRecord_disp (n : Word) (f : Record → Record) :
    (s.onRecord n f).disp = s.disp := rfl
@[simp] theorem State.onRecord_stk (n : Word) (f : Record → Record) :
    (s.onRecord n f).stk = s.stk := rfl
@[simp] theorem State.onRecord_sched (n : Word) (f : Record → Record) :
    (s.onRecord n f).sched = s.sched := rfl
@[simp] theorem State.onRecord_job (n : Word) (f : Record → Record) :
    (s.onRecord n f).job = s.job := rfl
@[simp] theorem State.onRecord_pending (n : Word) (f : Record → Record) :
    (s.onRecord n f).pending = s.pending := rfl
@[simp] theorem State.onRecord_pos (n : Word) (f : Record → Record) :
    (s.onRecord n f).track.pos = s.track.pos := rfl
@[simp] theorem State.onRecord_posHeld (n : Word) (f : Record → Record) :
    (s.onRecord n f).track.posHeld = s.track.posHeld := rfl
@[simp] theorem State.onRecord_nextSerial (n : Word) (f : Record → Record) :
    (s.onRecord n f).track.nextSerial = s.track.nextSerial := rfl
@[simp] theorem State.onRecord_zones (n : Word) (f : Record → Record) :
    (s.onRecord n f).track.zones = s.track.zones := rfl
@[simp] theorem State.onRecord_stale (n : Word) (f : Record → Record) :
    (s.onRecord n f).track.stale = s.track.stale := rfl
@[simp] theorem State.onRecord_zoneMerge (n : Word) (f : Record → Record) :
    (s.onRecord n f).track.zoneMerge = s.track.zoneMerge := rfl
@[simp] theorem State.charge_link (k : Fin 8) (c : LaneCounter) : (s.charge k c).link = s.link := rfl
@[simp] theorem State.charge_track (k : Fin 8) (c : LaneCounter) : (s.charge k c).track = s.track := rfl
@[simp] theorem State.charge_reg (k : Fin 8) (c : LaneCounter) : (s.charge k c).reg = s.reg := rfl
@[simp] theorem State.charge_cut (k : Fin 8) (c : LaneCounter) : (s.charge k c).cut = s.cut := rfl
@[simp] theorem State.charge_stk (k : Fin 8) (c : LaneCounter) : (s.charge k c).stk = s.stk := rfl
@[simp] theorem State.charge_sched (k : Fin 8) (c : LaneCounter) : (s.charge k c).sched = s.sched := rfl
@[simp] theorem State.charge_job (k : Fin 8) (c : LaneCounter) : (s.charge k c).job = s.job := rfl
@[simp] theorem State.charge_pending (k : Fin 8) (c : LaneCounter) : (s.charge k c).pending = s.pending := rfl
@[simp] theorem State.charge_disp_disp (k : Fin 8) (c : LaneCounter) :
    (s.charge k c).disp.disp = s.disp.disp := rfl
@[simp] theorem State.charge_disp_overrides (k : Fin 8) (c : LaneCounter) :
    (s.charge k c).disp.overrides = s.disp.overrides := rfl
@[simp] theorem State.charge_disp_lateGates (k : Fin 8) (c : LaneCounter) :
    (s.charge k c).disp.lateGates = s.disp.lateGates := rfl
@[simp] theorem State.onLateGates_link (k : Fin 8) (f : List SerialRange → List SerialRange) :
    (s.onLateGates k f).link = s.link := rfl
@[simp] theorem State.onLateGates_track (k : Fin 8) (f : List SerialRange → List SerialRange) :
    (s.onLateGates k f).track = s.track := rfl
@[simp] theorem State.onLateGates_reg (k : Fin 8) (f : List SerialRange → List SerialRange) :
    (s.onLateGates k f).reg = s.reg := rfl
@[simp] theorem State.onLateGates_cut (k : Fin 8) (f : List SerialRange → List SerialRange) :
    (s.onLateGates k f).cut = s.cut := rfl
@[simp] theorem State.onLateGates_stk (k : Fin 8) (f : List SerialRange → List SerialRange) :
    (s.onLateGates k f).stk = s.stk := rfl
@[simp] theorem State.onLateGates_sched (k : Fin 8) (f : List SerialRange → List SerialRange) :
    (s.onLateGates k f).sched = s.sched := rfl
@[simp] theorem State.onLateGates_job (k : Fin 8) (f : List SerialRange → List SerialRange) :
    (s.onLateGates k f).job = s.job := rfl
@[simp] theorem State.onLateGates_pending (k : Fin 8) (f : List SerialRange → List SerialRange) :
    (s.onLateGates k f).pending = s.pending := rfl
@[simp] theorem State.onLateGates_disp_disp (k : Fin 8) (f : List SerialRange → List SerialRange) :
    (s.onLateGates k f).disp.disp = s.disp.disp := rfl
@[simp] theorem State.onLateGates_disp_overrides (k : Fin 8) (f : List SerialRange → List SerialRange) :
    (s.onLateGates k f).disp.overrides = s.disp.overrides := rfl
@[simp] theorem State.onLateGates_disp_counters (k : Fin 8) (f : List SerialRange → List SerialRange) :
    (s.onLateGates k f).disp.counters = s.disp.counters := rfl

/-! ## A notice, a job state, an answer, a slot -/

@[simp] theorem State.notify_link (kd : NoticeKind) (k : Option (Fin 8)) (v : Word) :
    (s.notify kd k v).link = s.link := rfl
@[simp] theorem State.notify_track (kd : NoticeKind) (k : Option (Fin 8)) (v : Word) :
    (s.notify kd k v).track = s.track := rfl
@[simp] theorem State.notify_reg (kd : NoticeKind) (k : Option (Fin 8)) (v : Word) :
    (s.notify kd k v).reg = s.reg := rfl
@[simp] theorem State.notify_cut (kd : NoticeKind) (k : Option (Fin 8)) (v : Word) :
    (s.notify kd k v).cut = s.cut := rfl
@[simp] theorem State.notify_disp (kd : NoticeKind) (k : Option (Fin 8)) (v : Word) :
    (s.notify kd k v).disp = s.disp := rfl
@[simp] theorem State.notify_stk (kd : NoticeKind) (k : Option (Fin 8)) (v : Word) :
    (s.notify kd k v).stk = s.stk := rfl
@[simp] theorem State.notify_job (kd : NoticeKind) (k : Option (Fin 8)) (v : Word) :
    (s.notify kd k v).job = s.job := rfl
@[simp] theorem State.notify_pending (kd : NoticeKind) (k : Option (Fin 8)) (v : Word) :
    (s.notify kd k v).pending = s.pending := rfl
@[simp] theorem State.enterJobState_link (st : JobState) (c : HoldCause) :
    (s.enterJobState st c).link = s.link := rfl
@[simp] theorem State.enterJobState_track (st : JobState) (c : HoldCause) :
    (s.enterJobState st c).track = s.track := rfl
@[simp] theorem State.enterJobState_reg (st : JobState) (c : HoldCause) :
    (s.enterJobState st c).reg = s.reg := rfl
@[simp] theorem State.enterJobState_cut (st : JobState) (c : HoldCause) :
    (s.enterJobState st c).cut = s.cut := rfl
@[simp] theorem State.enterJobState_disp (st : JobState) (c : HoldCause) :
    (s.enterJobState st c).disp = s.disp := rfl
@[simp] theorem State.enterJobState_stk (st : JobState) (c : HoldCause) :
    (s.enterJobState st c).stk = s.stk := rfl
@[simp] theorem State.enterJobState_pending (st : JobState) (c : HoldCause) :
    (s.enterJobState st c).pending = s.pending := rfl
@[simp] theorem State.enterJobState_job_state (st : JobState) (c : HoldCause) :
    (s.enterJobState st c).job.state = st := rfl
@[simp] theorem State.enterJobState_job_cause (st : JobState) (c : HoldCause) :
    (s.enterJobState st c).job.cause = c := rfl
@[simp] theorem State.enterJobState_job_job (st : JobState) (c : HoldCause) :
    (s.enterJobState st c).job.job = s.job.job := rfl
@[simp] theorem State.enterJobState_job_station (st : JobState) (c : HoldCause) :
    (s.enterJobState st c).job.station = s.job.station := rfl
@[simp] theorem State.enterJobState_job_loop (st : JobState) (c : HoldCause) :
    (s.enterJobState st c).job.loop = s.job.loop := rfl
@[simp] theorem State.enterJobState_job_validated (st : JobState) (c : HoldCause) :
    (s.enterJobState st c).job.validated = s.job.validated := rfl
@[simp] theorem State.answer_track (c : RespCode) (d : List Byte) : (s.answer c d).track = s.track := rfl
@[simp] theorem State.answer_reg (c : RespCode) (d : List Byte) : (s.answer c d).reg = s.reg := rfl
@[simp] theorem State.answer_cut (c : RespCode) (d : List Byte) : (s.answer c d).cut = s.cut := rfl
@[simp] theorem State.answer_disp (c : RespCode) (d : List Byte) : (s.answer c d).disp = s.disp := rfl
@[simp] theorem State.answer_stk (c : RespCode) (d : List Byte) : (s.answer c d).stk = s.stk := rfl
@[simp] theorem State.answer_sched (c : RespCode) (d : List Byte) : (s.answer c d).sched = s.sched := rfl
@[simp] theorem State.answer_job (c : RespCode) (d : List Byte) : (s.answer c d).job = s.job := rfl
@[simp] theorem State.answer_pending (c : RespCode) (d : List Byte) : (s.answer c d).pending = s.pending := rfl
@[simp] theorem State.reply_track (c : RespCode) : (s.reply c).track = s.track := rfl
@[simp] theorem State.reply_reg (c : RespCode) : (s.reply c).reg = s.reg := rfl
@[simp] theorem State.reply_cut (c : RespCode) : (s.reply c).cut = s.cut := rfl
@[simp] theorem State.reply_disp (c : RespCode) : (s.reply c).disp = s.disp := rfl
@[simp] theorem State.reply_stk (c : RespCode) : (s.reply c).stk = s.stk := rfl
@[simp] theorem State.reply_sched (c : RespCode) : (s.reply c).sched = s.sched := rfl
@[simp] theorem State.reply_job (c : RespCode) : (s.reply c).job = s.job := rfl
@[simp] theorem State.reply_pending (c : RespCode) : (s.reply c).pending = s.pending := rfl
@[simp] theorem State.answer_link_node (c : RespCode) (d : List Byte) :
    (s.answer c d).link.node = s.link.node := rfl
@[simp] theorem State.answer_link_timer (c : RespCode) (d : List Byte) :
    (s.answer c d).link.timer = s.link.timer := rfl
@[simp] theorem State.answer_link_linkDown (c : RespCode) (d : List Byte) :
    (s.answer c d).link.linkDown = s.link.linkDown := rfl
@[simp] theorem State.answer_link_linkDownBefore (c : RespCode) (d : List Byte) :
    (s.answer c d).link.linkDownBefore = s.link.linkDownBefore := rfl
@[simp] theorem State.answer_link_badFrames (c : RespCode) (d : List Byte) :
    (s.answer c d).link.badFrames = s.link.badFrames := rfl
@[simp] theorem State.answer_link_slotOut (c : RespCode) (d : List Byte) :
    (s.answer c d).link.slotOut = s.link.slotOut := rfl
@[simp] theorem State.fillSlot_track (i : Nat) (b : List Byte) : (s.fillSlot i b).track = s.track := rfl
@[simp] theorem State.fillSlot_reg (i : Nat) (b : List Byte) : (s.fillSlot i b).reg = s.reg := rfl
@[simp] theorem State.fillSlot_cut (i : Nat) (b : List Byte) : (s.fillSlot i b).cut = s.cut := rfl
@[simp] theorem State.fillSlot_disp (i : Nat) (b : List Byte) : (s.fillSlot i b).disp = s.disp := rfl
@[simp] theorem State.fillSlot_stk (i : Nat) (b : List Byte) : (s.fillSlot i b).stk = s.stk := rfl
@[simp] theorem State.fillSlot_sched (i : Nat) (b : List Byte) : (s.fillSlot i b).sched = s.sched := rfl
@[simp] theorem State.fillSlot_job (i : Nat) (b : List Byte) : (s.fillSlot i b).job = s.job := rfl
@[simp] theorem State.fillSlot_pending (i : Nat) (b : List Byte) : (s.fillSlot i b).pending = s.pending := rfl
@[simp] theorem State.fillSlot_link_node (i : Nat) (b : List Byte) :
    (s.fillSlot i b).link.node = s.link.node := rfl
@[simp] theorem State.fillSlot_link_timer (i : Nat) (b : List Byte) :
    (s.fillSlot i b).link.timer = s.link.timer := rfl
@[simp] theorem State.fillSlot_link_linkDown (i : Nat) (b : List Byte) :
    (s.fillSlot i b).link.linkDown = s.link.linkDown := rfl
@[simp] theorem State.fillSlot_link_linkDownBefore (i : Nat) (b : List Byte) :
    (s.fillSlot i b).link.linkDownBefore = s.link.linkDownBefore := rfl
@[simp] theorem State.fillSlot_link_badFrames (i : Nat) (b : List Byte) :
    (s.fillSlot i b).link.badFrames = s.link.badFrames := rfl
@[simp] theorem State.fillSlot_link_response (i : Nat) (b : List Byte) :
    (s.fillSlot i b).link.response = s.link.response := rfl

end Sys2Proof.Machine
end

