-- ==== Sys2Proof/Laws/Ops.lean ====
section
/-! SUPPORT. For each shared operation, one lemma that says what it can do, for proofs to cite instead of
unfolding it. -/

namespace Sys2Proof.Machine

variable (s : State)

/-! ## Tables by lane -/

/-- An entry of a table of which entry k was changed. -/
theorem modAt_getElem {α : Type} {n : Nat} (v : Vector α n) (k : Fin n) (f : α → α) (i : Nat) (h : i < n) :
    (modAt v k f)[i] = if k.val = i then f v[k.val] else v[i] := by
  simp [modAt, Vector.getElem_set]

@[simp] theorem modAt_self {α : Type} {n : Nat} (v : Vector α n) (k : Fin n) (f : α → α) :
    (modAt v k f)[k.val] = f v[k.val] := by
  simp [modAt]

theorem modAt_ne {α : Type} {n : Nat} (v : Vector α n) (k j : Fin n) (f : α → α) (h : k ≠ j) :
    (modAt v k f)[j.val] = v[j.val] := by
  have : k.val ≠ j.val := fun e => h (Fin.ext e)
  simp [modAt_getElem, this]

@[simp] theorem State.onLane_lane_self (k : Fin 8) (f : StackLane → StackLane) :
    (s.onLane k f).lane k = f (s.lane k) := by
  simp [State.lane, State.onLane, State.onStk]

theorem State.onLane_lane_ne (k j : Fin 8) (f : StackLane → StackLane) (h : k ≠ j) :
    (s.onLane k f).lane j = s.lane j :=
  modAt_ne s.stk.lanes k j f h

/-- A counter row after one charge: that lane's row has one count more in that counter. -/
theorem State.charge_counters (k j : Fin 8) (c : LaneCounter) :
    (s.charge k c).disp.counters[j.val]
      = if k = j then s.disp.counters[j.val].bump c else s.disp.counters[j.val] := by
  by_cases h : k = j
  · subst h; simp [State.charge, State.onDisp]
  · simp [State.charge, State.onDisp, modAt_ne _ _ _ _ h, h]

/-! ## The lanes -/

theorem mem_allLanes (k : Fin 8) : k ∈ allLanes := by
  revert k; decide

theorem State.mem_lanesInUse (k : Fin 8) : k ∈ s.lanesInUse ↔ k.val < s.job.job.lanes := by
  simp [State.lanesInUse, mem_allLanes]

theorem laneOf_eq_some (b : Byte) (k : Fin 8) : laneOf b = some k ↔ b.toNat = k.val := by
  unfold laneOf
  split
  · simp [Fin.ext_iff]
  · rename_i h
    constructor
    · intro e; cases e
    · intro e; omega

theorem laneOf_eq_none (b : Byte) : laneOf b = none ↔ 8 ≤ b.toNat := by
  unfold laneOf
  split <;> simp <;> omega

/-! ## Saturating counters -/

theorem satInc_le (c : Word) : c.toNat ≤ (satInc c).toNat ∧ (satInc c).toNat ≤ c.toNat + 1 := by
  unfold satInc
  split
  · simp
  · rename_i h
    have : c.toNat ≠ 4294967295 := fun e => h (BitVec.eq_of_toNat_eq e)
    have := c.isLt
    simp [BitVec.toNat_add]
    omega

theorem satInc_below (c : Word) (h : c.toNat < 4294967295) : (satInc c).toNat = c.toNat + 1 := by
  have hne : c ≠ 0xFFFFFFFF#32 := fun e => by rw [e] at h; simp at h
  simp [satInc, hne, BitVec.toNat_add]
  omega

/-! ## Comparisons and clamping -/

theorem clamp_mem (v lo hi : Int) (h : lo ≤ hi) : lo ≤ clamp v lo hi ∧ clamp v lo hi ≤ hi := by
  unfold clamp
  split
  · omega
  · split <;> omega

theorem clamp_of_mem (v lo hi : Int) (h₁ : lo ≤ v) (h₂ : v ≤ hi) : clamp v lo hi = v := by
  unfold clamp
  split
  · omega
  · split <;> omega

theorem LoopRec.withoutGain_iff (loop : LoopRec) :
    loop.withoutGain = true ↔ loop.kp = 0 ∧ loop.ki = 0 := by
  simp [LoopRec.withoutGain]

@[simp] theorem CutControl.correct_applied (loop : LoopRec) (e : Int) (c : CutControl) :
    (c.correct loop e).applied = c.applied := by
  unfold CutControl.correct; split <;> rfl

@[simp] theorem CutControl.correct_ramp (loop : LoopRec) (e : Int) (c : CutControl) :
    (c.correct loop e).ramp = c.ramp := by
  unfold CutControl.correct; split <;> rfl

@[simp] theorem CutControl.correct_strayMeas (loop : LoopRec) (e : Int) (c : CutControl) :
    (c.correct loop e).strayMeas = c.strayMeas := by
  unfold CutControl.correct; split <;> rfl

@[simp] theorem CutControl.correct_lateCut (loop : LoopRec) (e : Int) (c : CutControl) :
    (c.correct loop e).lateCut = c.lateCut := by
  unfold CutControl.correct; split <;> rfl

theorem rampStart_pos (m : Nat) : 1 ≤ rampStart m :=
  Nat.le_max_left 1 (m / 32)

/-! ## Notices -/

/-- A coalescence changes one count and neither adds an item nor moves one. -/
theorem coalesce_keys (kind : NoticeKind) (lane : Option (Fin 8)) (ns ns' : List Notice)
    (h : coalesce kind lane ns = some ns') :
    ns'.map (fun n => (n.kind, n.lane, n.value)) = ns.map (fun n => (n.kind, n.lane, n.value)) := by
  induction ns generalizing ns' with
  | nil => simp [coalesce] at h
  | cons n ns ih =>
    simp only [coalesce] at h
    split at h
    · cases h; simp
    · cases hc : coalesce kind lane ns with
      | none => simp [hc] at h
      | some r =>
        simp only [hc, Option.map_some, Option.some.injEq] at h
        subst h
        simp [ih r hc]

/-- No coalescence means that no item of this kind and lane waits. -/
theorem coalesce_eq_none (kind : NoticeKind) (lane : Option (Fin 8)) (ns : List Notice) :
    coalesce kind lane ns = none ↔ ∀ n ∈ ns, ¬(n.kind = kind ∧ n.lane = lane) := by
  induction ns with
  | nil => simp [coalesce]
  | cons n ns ih =>
    simp only [coalesce]
    split
    · rename_i h; simp [h]
    · rename_i h
      simp only [Option.map_eq_none_iff, ih, List.mem_cons, forall_eq_or_imp]
      exact ⟨fun h' => ⟨h, h'⟩, fun h' => h'.2⟩

/-- A notice touches the NOTICE queue and its counter, and nothing else of the scheduler. -/
theorem Scheduler.notify_frame (q : Scheduler) (kind : NoticeKind) (lane : Option (Fin 8)) (v : Word) :
    (q.notify kind lane v).knife = q.knife ∧ (q.notify kind lane v).gate = q.gate
      ∧ (q.notify kind lane v).stack = q.stack ∧ (q.notify kind lane v).table = q.table
      ∧ (q.notify kind lane v).gateCredit = q.gateCredit
      ∧ (q.notify kind lane v).stackCredit = q.stackCredit
      ∧ (q.notify kind lane v).noticeCredit = q.noticeCredit := by
  unfold Scheduler.notify
  split
  · simp
  · split <;> simp

theorem State.notify_sched (kind : NoticeKind) (lane : Option (Fin 8)) (v : Word) :
    (s.notify kind lane v).sched = s.sched.notify kind lane v := rfl

/-! ## Records -/

/-- A change of one record that keeps its serial keeps every serial. -/
theorem State.onRecord_serials (n : Word) (f : Record → Record) (hf : ∀ r, (f r).serial = r.serial) :
    (s.onRecord n f).track.queue.map (·.serial) = s.track.queue.map (·.serial) := by
  simp only [State.onRecord, State.onTrack, List.map_map]
  congr 1
  funext r
  simp only [Function.comp_apply]
  split
  · exact hf r
  · rfl

theorem State.onRecord_length (n : Word) (f : Record → Record) :
    (s.onRecord n f).track.queue.length = s.track.queue.length := by
  simp [State.onRecord, State.onTrack]

/-- Where no serial stands twice, a change by serial changes that record alone. -/
theorem State.onRecord_split (n : Word) (f : Record → Record) (older younger : List Record) (r : Record)
    (hq : s.track.queue = older ++ r :: younger) (hr : r.serial = n)
    (ho : ∀ x ∈ older, x.serial ≠ n) (hy : ∀ x ∈ younger, x.serial ≠ n) :
    (s.onRecord n f).track.queue = older ++ f r :: younger := by
  have same : ∀ l : List Record, (∀ x ∈ l, x.serial ≠ n) →
      l.map (fun r => if r.serial = n then f r else r) = l := by
    intro l h
    exact (List.map_congr_left fun x hx => by simp [h x hx]).trans (List.map_id l)
  simp [State.onRecord, State.onTrack, hq, same older ho, same younger hy, hr]

/-- The records from that of a serial on, where no older one has it. -/
theorem State.fromSerial_split (older younger : List Record) (r : Record)
    (hq : s.track.queue = older ++ r :: younger) (ho : ∀ x ∈ older, x.serial ≠ r.serial) :
    s.fromSerial r.serial = r :: younger := by
  rw [State.fromSerial, hq, List.dropWhile_append_of_pos (by simpa using ho)]
  simp

/-- The records older than that of a serial, where none of them has it. -/
theorem State.olderThan_split (older younger : List Record) (r : Record)
    (hq : s.track.queue = older ++ r :: younger) (ho : ∀ x ∈ older, x.serial ≠ r.serial) :
    s.olderThan r.serial = older := by
  rw [State.olderThan, hq, List.takeWhile_append_of_pos (by simpa using ho)]
  simp

/-- Where no serial stands twice, the records before and behind a record have other serials. -/
theorem State.SerialsApart.others (h : s.SerialsApart) (older younger : List Record) (r : Record)
    (hq : s.track.queue = older ++ r :: younger) :
    (∀ x ∈ older, x.serial ≠ r.serial) ∧ ∀ x ∈ younger, x.serial ≠ r.serial := by
  rw [State.SerialsApart, hq] at h
  simp only [List.map_append, List.map_cons, List.nodup_append, List.nodup_cons, List.mem_map] at h
  exact ⟨fun x hx e => h.2.2 _ ⟨x, hx, rfl⟩ _ (by simp) e, fun x hx e => h.2.1.1 ⟨x, hx, e⟩⟩

theorem insertZone_length (z : Zone) (zs : List Zone) : (insertZone z zs).length = zs.length + 1 := by
  induction zs with
  | nil => rfl
  | cons y ys ih =>
    simp only [insertZone]
    split
    · rfl
    · simp [ih]

/-- R73 step 1: the distance of a zone above, whether or not the new zone is beyond it too by the same gap. -/
theorem zoneDistance_above (z y : Zone) (apart : ¬(atOrBeyond y.hi z.lo = true ∧ atOrBeyond z.hi y.lo = true))
    (above : beyond y.lo z.hi = true) (single : beyond z.lo y.hi = false ∨ z.lo - y.hi = y.lo - z.hi) :
    zoneDistance z y = (y.lo - z.hi).toNat := by
  unfold zoneDistance
  rcases single with h | h
  · simp [apart, above, h]
  · cases hb : beyond z.lo y.hi <;> simp [apart, above, h]

/-- R73 step 1: the distance of a zone below, whether or not it is beyond the new zone too by the same gap. -/
theorem zoneDistance_below (z y : Zone) (apart : ¬(atOrBeyond y.hi z.lo = true ∧ atOrBeyond z.hi y.lo = true))
    (below : beyond z.lo y.hi = true) (single : beyond y.lo z.hi = false ∨ y.lo - z.hi = z.lo - y.hi) :
    zoneDistance z y = (z.lo - y.hi).toNat := by
  unfold zoneDistance
  rcases single with h | h
  · simp [apart, below, h]
  · cases hb : beyond y.lo z.hi <;> simp [apart, below, h]

/-! ## Job and registration state -/

/-- R20: the registration state takes the value, with one REG_STATE notice only where it changes. -/
theorem State.setRegState_spec (state : RegState) :
    (s.setRegState state).reg = { s.reg with state }
      ∧ (s.setRegState state).sched
          = (if s.reg.state = state then s.sched
             else s.sched.notify .regState none (BitVec.ofNat 32 state.code))
      ∧ (s.setRegState state).track = s.track ∧ (s.setRegState state).cut = s.cut
      ∧ (s.setRegState state).disp = s.disp ∧ (s.setRegState state).stk = s.stk
      ∧ (s.setRegState state).job = s.job ∧ (s.setRegState state).link = s.link
      ∧ (s.setRegState state).pending = s.pending := by
  unfold State.setRegState
  by_cases h : s.reg.state = state
  · subst h; simp
  · simp [h, State.notify_sched]

/-- R34, R35: an alarm touches the two flags and the NOTICE queue, and nothing else. -/
theorem State.alarm_frame (t : State) (h : t = s.alarmLow ∨ t = s.alarmHigh) :
    t.reg.samples = s.reg.samples ∧ t.reg.estimate = s.reg.estimate ∧ t.reg.state = s.reg.state
      ∧ t.track = s.track ∧ t.cut = s.cut ∧ t.disp = s.disp ∧ t.stk = s.stk ∧ t.job = s.job
      ∧ t.link = s.link := by
  rcases h with rfl | rfl
  · unfold State.alarmLow; split <;> simp
  · unfold State.alarmHigh; split <;> simp

/-- R34: the comparison touches the two alarm flags and the NOTICE queue, and nothing else. -/
theorem State.compareAlarms_frame :
    s.compareAlarms.reg.samples = s.reg.samples ∧ s.compareAlarms.reg.estimate = s.reg.estimate
      ∧ s.compareAlarms.reg.state = s.reg.state ∧ s.compareAlarms.track = s.track
      ∧ s.compareAlarms.cut = s.cut ∧ s.compareAlarms.disp = s.disp ∧ s.compareAlarms.stk = s.stk
      ∧ s.compareAlarms.job = s.job ∧ s.compareAlarms.link = s.link := by
  unfold State.compareAlarms
  have low := s.alarm_frame s.alarmLow (.inl rfl)
  have high := s.alarm_frame s.alarmHigh (.inr rfl)
  have both := s.alarmLow.alarm_frame s.alarmLow.alarmHigh (.inr rfl)
  split <;> split <;> simp_all

theorem State.stacksEmpty_iff : s.stacksEmpty = true ↔ ∀ k : Fin 8, (s.lane k).list = [] := by
  simp only [State.stacksEmpty, List.all_eq_true, List.isEmpty_iff]
  exact ⟨fun h k => h k (mem_allLanes k), fun h k _ => h k⟩

/-- R138, R162: the end-of-job report returns a job in ENDING with nothing left to ARMED, and else does nothing. -/
theorem State.completeEnding_eq :
    s.completeEnding
      = if s.job.state = .ending ∧ s.track.queue = [] ∧ ∀ k : Fin 8, (s.lane k).list = [] then
          ({ s with job := { s.job with state := .armed, cause := .none } } : State).notify .jobState none 1#32
        else s := by
  unfold State.completeEnding
  simp only [State.stacksEmpty_iff]
  rfl

theorem StackRec.changeDue_iff (r : StackRec) : r.changeDue = true ↔ r.DueByRule := by
  simp [StackRec.changeDue, and_assoc]

@[simp] theorem State.set_own_lane (k : Fin 8) : s.stk.lanes.set k.val (s.lane k) = s.stk.lanes := by
  simp [State.lane]

/-- R130: the change test marks the lane's oldest record requested and queues its STACK item where its change is
due, and changes nothing else. -/
theorem State.requestChange_eq (k : Fin 8) :
    s.requestChange k = { s with
      stk := { s.stk with
        lanes := s.stk.lanes.set k.val { s.lane k with list := changeAsked (s.lane k).list } }
      sched := { s.sched with stack := s.sched.stack ++ changeItems k (s.lane k).list } } := by
  have same : ∀ list, (s.lane k).list = list → ({ s.lane k with list } : StackLane) = s.lane k :=
    fun list h => by rw [← h]
  rcases hl : (s.lane k).list with _ | ⟨r, rest⟩
  · simp [State.requestChange, hl, changeAsked, changeItems, same [] hl]
  · by_cases hd : r.DueByRule
    · simp only [State.requestChange, hl, changeAsked, changeItems, if_pos hd, if_pos (r.changeDue_iff.2 hd)]
      rfl
    · have hn : ¬r.changeDue = true := fun h => hd (r.changeDue_iff.1 h)
      simp only [State.requestChange, hl, changeAsked, changeItems, if_neg hd, if_neg hn, List.append_nil,
        same _ hl, State.set_own_lane]

/-- R163: outside RUN and ENDING entry to HOLD does nothing. -/
theorem State.enterHold_idle (cause : HoldCause) (h : s.running = false) : s.enterHold cause = s := by
  simp [State.enterHold, h]

/-- R171: an unaddressed part does nothing with an arrival, an offer or a request. -/
theorem State.ifAddressed_unaddressed (f : State → State) (h : s.addressed = false) :
    s.ifAddressed f = s := by
  simp [State.ifAddressed, h]

theorem State.ifAddressed_addressed (f : State → State) (h : s.addressed = true) :
    s.ifAddressed f = f s := by
  simp [State.ifAddressed, h]

/-! ## Creating and closing records -/

/-- R46, R47: an append is the joining of the new record, with the one before it closed where that starts. -/
theorem State.append_eq (anchor : Word) (origin : Origin) (cls : RegState) :
    s.append s.designByRule anchor origin cls = s.joinedBy (s.nextRecord anchor origin cls) := rfl

theorem State.nextDesign_eq : s.nextDesign = s.designByRule := by
  unfold State.nextDesign State.designByRule State.countedDesign
  cases s.reg.firstRecord <;> cases s.reg.cyclePending <;> simp

/-- Two states that agree in all that late information and the closing of a record read and write, but for the
notices. -/
abbrev State.ClosesAlike (a b : State) : Prop :=
  a.track = b.track ∧ a.disp = b.disp ∧ a.stk = b.stk ∧ a.job = b.job

/-- What keeps two states alike keeps them so over a list. -/
theorem State.ClosesAlike.foldl {α : Type} (f : State → α → State)
    (hf : ∀ a b x, State.ClosesAlike a b → (f a x).ClosesAlike (f b x)) (l : List α) {a b : State}
    (h : a.ClosesAlike b) : (l.foldl f a).ClosesAlike (l.foldl f b) := by
  induction l generalizing a b with
  | nil => exact h
  | cons x xs ih => exact ih (hf _ _ _ h)

theorem State.ClosesAlike.onTrack (f : Tracking → Tracking) {a b : State} (h : a.ClosesAlike b) :
    (a.onTrack f).ClosesAlike (b.onTrack f) :=
  ⟨congrArg f h.1, h.2⟩

/-- R115: what late information does, but for its notice, depends on no more than the two states agree in. -/
theorem State.ClosesAlike.lateInformation (r : Record) (k : Fin 8) (kind : LateKind) {a b : State}
    (h : a.ClosesAlike b) : (a.lateInformation r k kind).ClosesAlike (b.lateInformation r k kind) := by
  obtain ⟨track, disp, stk, job⟩ := h
  have charged : ((a.charge k .lateInfo).notify .lateInfo (some k) r.serial).ClosesAlike
      ((b.charge k .lateInfo).notify .lateInfo (some k) r.serial) := by
    simp [State.ClosesAlike, State.charge, State.onDisp, track, disp, stk, job]
  have marked : ∀ {u v : State} (f : StackLane → StackLane), u.ClosesAlike v →
      (u.onLane k f).ClosesAlike (v.onLane k f) := fun f h =>
    ⟨h.1, h.2.1, by simp [State.onLane, State.onStk, h.2.2.1], h.2.2.2⟩
  unfold State.lateInformation
  dsimp only
  split
  · exact marked _ charged
  · split
    · split
      · exact marked _ charged
      · exact charged
    · exact charged

/-- R69: as does a zone applied to a record. -/
theorem State.ClosesAlike.applyZone (z : Zone) (r : Record) {a b : State} (h : a.ClosesAlike b) :
    (a.applyZone z r).ClosesAlike (b.applyZone z r) := by
  unfold State.applyZone
  split
  · exact h.onTrack _
  · rw [show a.lanesInUse = b.lanesInUse by rw [State.lanesInUse, State.lanesInUse, h.2.2.2]]
    exact State.ClosesAlike.foldl (fun s k => s.lateInformation r k z.kind.late)
      (fun _ _ k h => h.lateInformation r k _) _ h

/-- R47, R75: as does the closing of a record. -/
theorem State.ClosesAlike.closeRecord (r : Record) (stop : Word) {a b : State} (h : a.ClosesAlike b) :
    (a.closeRecord r stop).ClosesAlike (b.closeRecord r stop) := by
  have closed : ∀ f, (a.onRecord r.serial f).ClosesAlike (b.onRecord r.serial f) := fun f => h.onTrack _
  have step : ∀ (u v : State) (z : Zone), u.ClosesAlike v →
      (u.closingZone r.serial r.nominalStart stop z).ClosesAlike
        (v.closingZone r.serial r.nominalStart stop z) := by
    intro u v z h
    unfold State.closingZone
    rw [show u.fromSerial r.serial = v.fromSerial r.serial by
      rw [State.fromSerial, State.fromSerial, h.1]]
    have counted : ∀ {x y : State}, x.ClosesAlike y →
        (if behind z.hi stop && behind z.hi r.nominalStart then
          x.onTrack fun t => { t with stale := satInc t.stale } else x).ClosesAlike
        (if behind z.hi stop && behind z.hi r.nominalStart then
          y.onTrack fun t => { t with stale := satInc t.stale } else y) := by
      intro x y h
      split
      · exact h.onTrack _
      · exact h
    cases (v.fromSerial r.serial).head? with
    | none => exact counted h
    | some x =>
      by_cases hz : z.reaches x = true
      · simp only [hz, if_true]; exact counted (h.applyZone _ _)
      · simp only [hz]; exact counted h
  unfold State.closeRecord
  dsimp only
  rw [(closed _).1]
  exact (State.ClosesAlike.foldl _ step _ (closed _)).onTrack _

/-! ## Bytes -/

@[simp] theorem beBytes_length (n v : Nat) : (beBytes n v).length = n := by
  induction n with
  | zero => rfl
  | succ n ih => simp [beBytes, ih]

@[simp] theorem padTo_length (n : Nat) (bs : List Byte) : (padTo n bs).length = n := by
  simp [padTo]
  omega

theorem patch_length (off : Nat) (new bs : List Byte) (h : off + new.length ≤ bs.length) :
    (patch off new bs).length = bs.length := by
  simp [patch]
  omega

theorem sealFrame_length (bs : List Byte) (h : 4 ≤ bs.length) : (sealFrame bs).length = bs.length := by
  simp [sealFrame, frameBody]
  omega

/-- Every CRC fits its four bytes. -/
theorem crc32_lt (bs : List Byte) : crc32 bs < 4294967296 := by
  unfold crc32
  omega

end Sys2Proof.Machine
end

