-- ==== Sys2Proof/Tests/Slice0.lean ====
section
/-! SUPPORT. Tests of the model: what WellFormed refuses, at most two single steps for each command with the values
that the manual's own examples and tables give, and for every obligation that has hypotheses a state and operands
that meet them. -/

namespace Sys2Proof.Machine.Tests

set_option Elab.async false

/-! ## Helpers: the base job of the manual (9.4.1, 1.2.1, 5.7) -/

/-- The state after a command that answers one. -/
def after (c : Instr) (s : State) : State :=
  match exec c s with
  | .next t => t
  | _ => s

def job0 : JobRec :=
  { lanes := 3, pitch := 30000, cycle := 4, m2c := 4000, window := 2000, missingLimit := 1, depth := 2,
    lowThreshold := 29700, highThreshold := 30300, windowMode := false, policy := .stack,
    marginBefore := 40000, marginAfter := 10000 }

def station0 : StationRec :=
  { dC := -150000, dU := -90000, dK := 60000, dX := 75000, dG := 150000, dS := 180000,
    knifeHorizon := 20000, knifeLead := 8000, gateHorizon := 20000, gateLead := 5000,
    reverseTolerance := 200, knifeNode := 7, gateNode := 9, ringTimeout := 4 }

def loop0 : LoopRec :=
  { kp := 128, ki := 16, limit := 800, maxStep := 96, lockTolerance := 10, unlockTolerance := 40 }

/-- The base job in CONFIG at node 12. -/
def base : State :=
  { State.reset with
    job := { state := .config, cause := .none, job := job0, station := station0, loop := loop0,
             validated := 800 } }

/-- The part in this job state. -/
def inState (state : JobState) (s : State) : State := s.onJob fun j => { j with state }

/-- The base job in RUN with the tracked position at P. -/
def running (p : Nat) : State := (inState .run base).setPos (BitVec.ofNat 32 p)

/-- A MARKED record of class LOCKED in the base job. -/
def rec0 (serial anchor : Nat) : Record :=
  .fresh (BitVec.ofNat 32 serial) 0 (BitVec.ofNat 32 anchor) .marked .locked 4000

/-- The state with this repeat queue. -/
def withQueue (q : List Record) (s : State) : State := s.onTrack fun u => { u with queue := q }

/-- The state with this stack list in lane k. -/
def withStacks (k : Fin 8) (l : List StackRec) (s : State) : State := s.onLane k fun x => { x with list := l }

/-- A stack record of number n and design 0. -/
def stack0 (n assigned arrived held target : Nat) (state : StackState) (requested : Bool) : StackRec :=
  { number := n, design := 0, assigned, arrived, held, target, suspect := 0, short := false, requested, state }

/-- A request data area that begins with these bytes. -/
def area (b : List Byte) : List Byte := padTo 64 b

def codeOf (s : State) : Option RespCode := s.link.response.map (·.code)

/-- A cycle frame of one EMPTY slot of the supervisor, and a service frame, each with its CRC. -/
def cycleFrame : List Byte := sealFrame ([0xA5#8, 1#8] ++ List.replicate 20 0#8)

def serviceFrame : List Byte := sealFrame ([0x5A#8, 12#8, 3#8] ++ List.replicate 137 0#8)

def badCycleFrame : List Byte := [0xA5#8, 1#8] ++ List.replicate 20 0#8

/-! ## Wire and word -/

/-- The check value of the CRC that R179 describes, for the nine ASCII digits 1 to 9 (CRC-32/BZIP2). -/
theorem test_crc : crc32 [0x31#8, 0x32#8, 0x33#8, 0x34#8, 0x35#8, 0x36#8, 0x37#8, 0x38#8, 0x39#8]
    = 0xFC891918 := by decide +kernel

theorem test_no_word_spells_a_command : decodeTableWord 16 0x1234 = none := by decide

/-! ## WellFormed -/

theorem test_illformed_valid_frame : WellFormed (.validFrame badCycleFrame) = false := by decide +kernel
theorem test_illformed_bad_frame : WellFormed (.badFrame cycleFrame) = false := by decide +kernel
theorem test_illformed_data : WellFormed (.writeLoop 0#16 1#8 [1#8]) = false := by decide
theorem test_illformed_kind : WellFormed (.unknownRequestKind 0x1F#8) = false := by decide
theorem test_illformed_table : WellFormed (.writeNoTable 8#8 0#16 1#8 (area [])) = false := by decide
theorem test_wellformed_kind : WellFormed (.unknownRequestKind 0x08#8) = true := by decide
theorem test_wellformed_frame : WellFormed (.validFrame serviceFrame) = true := by decide +kernel

/-! ## Positions, the estimate, rounding, overrides, stacks: the manual's examples -/

/-- Table 1-7 at P = 40,000: the piece under the knife. -/
theorem test_material_wrap : shift 40000#32 (-60000) = 4294947296#32 := by decide

/-- 2.8.1: the four depths of the example's ring. -/
theorem test_averages :
    (pitchAverage 0 [30011, 30015, 30009, 30012, 30004, 30020],
      pitchAverage 1 [30011, 30015, 30009, 30012, 30004, 30020],
      pitchAverage 2 [30011, 30015, 30009, 30012, 30004, 30020]) = (30011, 30013, 30012) := by decide

/-- 5.7 and 5.8: the roundings −67.5, −63.75, −10.375, −14.5, +1.5, −0.5. -/
theorem test_rounding :
    [-17280, -16320, -2656, -3712, 384, -128].map round256 = [-68, -64, -10, -15, 2, -1] := by decide

/-- 6.3.1: serials 4,294,967,295 and 3 match the range, 6 does not. -/
theorem test_override_range :
    [4294967295#32, 3#32, 6#32].map (serialInRange · 4294967290#32 5#32) = [true, true, false] := by decide

/-- 7.4.1: a design change against a full list gives GAP. -/
theorem test_design_change_full_list :
    (StackLane.assign { LaneCfg.powerOn with changeGap := 2 } 2
        { StackLane.powerOn with
          list := [stack0 30 100 9 0 100 .filled false, stack0 31 100 0 0 100 .filled false,
                   stack0 32 100 0 0 100 .filled false,
                   { stack0 33 40 0 0 100 .assigning false with design := 1 }] }).1 = .gap := by decide

/-! ## One or two single steps for each command -/

theorem test_powerOnReset : (after (.powerOnReset 63#6) (running 5)).link.timer = none
    ∧ (after (.powerOnReset 62#6) (running 5)).link.timer = some 10 := by decide +kernel

/-- Table 10-3, last row. -/
theorem test_validFrame :
    let s := after (.validFrame cycleFrame)
      (base.onLink fun l => { l with linkDown := true, timer := none, badFrames := 8#32 })
    s.link.timer = some 4 ∧ s.link.linkDown = false ∧ s.link.badFrames = 8#32 := by decide +kernel

/-- Table 10-3, second row. -/
theorem test_badFrame :
    let s := after (.badFrame badCycleFrame) (base.onLink fun l => { l with timer := some 4, badFrames := 7#32 })
    s.link.timer = some 4 ∧ s.link.badFrames = 8#32 ∧ s.link.frame = badCycleFrame := by decide +kernel

/-- Table 1-10, arrivals 2 and 6. -/
theorem test_webpos_reverse :
    (after (.webpos 1000350#32) (running 1000480)).track.pos = 1000480#32
      ∧ (after (.webpos 1000650#32) (running 1000900)).track.pos = 1000650#32
      ∧ (after (.webpos 1000650#32) (running 1000900)).job.cause = .reverse := by decide +kernel

/-- The state of 6.9 before the advance to 3,134,200. -/
def fourLanes : State :=
  let r520 : Record := { rec0 520 3000010 with
    design := 2, nominalEnd := some 3034010#32, cut := .sent, cutLine := some 3004000#32, check := .checked }
  let r521 : Record := { rec0 521 3030010 with cut := .sent, cutLine := some 3034010#32, check := .checked }
  let defect : LaneEntry := { LaneEntry.fresh with defect := true }
  let s := withQueue [(r520.onLane 0 fun _ => defect).onLane 3 fun _ => defect, r521] (running 3134000)
  { s with
    job := { s.job with job := { job0 with lanes := 4, policy := .reject } }
    reg := { s.reg with state := .locked, lastAnchor := 3120000#32 }
    disp := { s.disp with
      disp := (((s.disp.disp.set 16 ⟨true, .stack⟩).set 17 ⟨true, .follow⟩).set 18 ⟨true, .waste⟩).set 19
        ⟨true, .stack⟩
      overrides := s.disp.overrides.set 5 ⟨true, .forceAccept, 500#32, 530#32, 1#8⟩ }
    stk := { s.stk with
      cfg := #v[⟨true, 20, 100, 0, 4, 4000, 0, 0⟩, ⟨true, 21, 100, 0, 4, 4000, 1000, 1500⟩,
                ⟨true, 22, 100, 0, 4, 4000, 0, 2000⟩, ⟨true, 23, 100, 0, 4, 4000, 500, 500⟩,
                .powerOn, .powerOn, .powerOn, .powerOn]
      lanes := (s.stk.lanes.set 0 { StackLane.powerOn with
          list := [{ stack0 12 3 0 0 100 .assigning false with design := 2 }] }).set 1
        { StackLane.powerOn with gap := 1 } }
    sched := { s.sched with gate := [⟨2, 3123000#32, 3156000#32, 519#32, 519#32⟩] } }

/-- 6.9, Table 6-3: the four outcomes and the three gate items. -/
theorem test_webpos_commit :
    let s := after (.webpos 3134200#32) fourLanes
    s.track.queue.head?.map (fun r => r.lanes.toList.map (·.outcome))
        = some [some .stack, some .gap, some .waste, some .reject, none, none, none, none]
      ∧ s.sched.gate = [⟨2, 3123000#32, 3186010#32, 519#32, 520#32⟩,
          ⟨1, 3153000#32, 3185510#32, 520#32, 520#32⟩, ⟨3, 3153500#32, 3184510#32, 520#32, 520#32⟩] := by
  decide +kernel

/-- Table 2-3 before mark 650,195: LOCKED with three samples, the cycle mark taken. -/
def beforeFourth : State :=
  (running 640000).onReg fun r => { r with
    state := .locked, lastAnchor := 620185#32, lastOrigin := some .marked, samples := [30015, 30010, 30010],
    design := 3, cyclePending := true }

/-- Table 2-3, mark 650,195. -/
theorem test_markev_accept :
    let s := after (.markev 0#8 0#8 650195#32) beforeFourth
    (s.reg.lastAnchor, s.reg.design, s.pitchEstimate, s.reg.designSlip) = (650195#32, 0, 30011, 0#32) := by
  decide +kernel

/-- Table 2-3, mark 575,000: outside the window. -/
theorem test_markev_stray :
    let s := after (.markev 0#8 0#8 575000#32) ((running 570000).onReg fun r => { r with
      state := .acquire, lastAnchor := 560160#32, lastOrigin := some .marked, samples := [30010], design := 1 })
    (s.reg.stray, s.reg.lastAnchor) = (1#32, 560160#32) := by decide +kernel

/-- 4.9, event 4: an untagged report at P = 2,012,000 is the point 2,162,000. -/
theorem test_inspect_untagged :
    (after (.inspect 0#8 1#8 5#32 9#16) (running 2012000)).track.zones
      = [{ kind := .defect, lo := 2162000#32, hi := 2162000#32, lanes := 1#8 }] := by decide +kernel

/-- The list of Table 4-2. -/
def fullList : List Zone :=
  [⟨.defect, 2012500#32, 2014200#32, 1#8⟩, ⟨.defect, 2040000#32, 2046000#32, 4#8⟩]
    ++ List.replicate 59 ⟨.defect, 2050000#32, 2138000#32, 1#8⟩
    ++ [⟨.defect, 2141000#32, 2141400#32, 1#8⟩, ⟨.splice, 2143000#32, 2158000#32, 0xFF#8⟩,
        ⟨.defect, 2146500#32, 2146800#32, 4#8⟩]

/-- 4.9, event 1: the new zone merges with Zc in its place. -/
theorem test_inspect_merge :
    let s := after (.inspect 1#8 0x22#8 1994000#32 300#16)
      ((withQueue [rec0 9 2010000] (running 2012000)).onTrack fun u => { u with zones := fullList })
    s.track.zones.getLast? = some ⟨.defect, 2144000#32, 2146800#32, 6#8⟩ ∧ s.track.zones.length = 64
      ∧ s.track.zoneMerge = 1#32 := by decide +kernel

/-- 4.8: the splice at 2,050,000 gives the zone from 2,100,000 to 2,150,000. -/
theorem test_splice :
    (after (.splice 2050000#32) (withQueue [rec0 414 2090040] (running 2105000))).track.zones
      = [⟨.splice, 2100000#32, 2150000#32, 0xFF#8⟩] := by decide +kernel

/-- The queue of Table 6-4. -/
def atHold : State :=
  let out (o : LabelOutcome) (e : LaneEntry) : LaneEntry :=
    { e with outcome := some o, stackRef := if o = .stack then some 1 else none }
  let done (r : Record) (a b c : LabelOutcome) : Record :=
    { ((r.onLane 0 (out a)).onLane 1 (out b)).onLane 2 (out c) with commit := .committed }
  withQueue [done (rec0 530 0) .stack .stack .waste, done (rec0 531 0) .stack .reject .stack, rec0 532 0,
    rec0 533 0, rec0 534 0, rec0 535 0] (running 5)

/-- 6.10: LOST grows by 6, 5 and 5. -/
theorem test_webbreak :
    ((after .webbreak atHold).disp.counters.toList.take 3).map (·.lost) = [6#32, 5#32, 5#32] := by
  decide +kernel

/-- A sent and unchecked record of the base job in ACQUIRE. -/
def measured (ki : Nat) : State :=
  let s := withQueue [{ rec0 300 530000 with cut := .sent, cutLine := some 534000#32 }] (running 609000)
  { s with
    reg := { s.reg with state := .acquire }
    job := { s.job with loop := { loop0 with ki } } }

/-- 5.8: a report of +5,000. -/
theorem test_cutmeas_clamped :
    let s := after (.cutmeas 1#8 5000#16) (measured 16)
    (s.cut.integral, s.cut.target, s.reg.state) = (-65520, -800, .acquire) := by decide +kernel

/-- 5.8, small ties: a report of −3 with Ki = 0; |−3| is within the lock tolerance. And R96: with Kp and Ki both 0
the integral and the target stay, and the lock test is made. -/
theorem test_cutmeas_tie :
    let s := after (.cutmeas 1#8 (BitVec.ofInt 16 (-3))) (measured 0)
    let idle := ((measured 0).onJob fun j => { j with loop := { j.loop with kp := 0 } }).onCut fun c =>
      { c with target := -68, integral := -1920 }
    let z := after (.cutmeas 1#8 5#16) idle
    (s.cut.integral, s.cut.target, s.reg.state) = (0, 2, .locked)
      ∧ (z.cut.integral, z.cut.target, z.reg.state) = (-1920, -68, .locked) := by decide +kernel

/-- Table 7-3 before event 14. -/
def inChange : State :=
  (withStacks 0 [stack0 12 4 4 0 4 .changing true, stack0 13 4 2 2 4 .filled false] (running 5)).onLane 0
    fun l => { l with gap := 1, timer := some ⟨730, 4000⟩ }

/-- Table 7-3, event 14. -/
theorem test_stkready :
    let s := after (.stkready 0#8 12#16) inChange
    (s.lane 0).list = [stack0 13 4 2 0 4 .filled false] ∧ (s.lane 0).timer = none
      ∧ s.sched.notices = [⟨.stackDone, some 0, 1, 12#32⟩] := by decide +kernel

/-- R134, R135. -/
theorem test_stkfault :
    let s := after (.stkfault 0#8) inChange
    (s.lane 0).state = .fault ∧ (s.lane 0).cause = .node ∧ (s.lane 0).list = []
      ∧ s.sched.notices = [⟨.stackerFault, some 0, 1, 3#32⟩] := by decide +kernel

/-- 11.7: the bytes of the slot of lane 2's GATE item. -/
theorem test_offer_bytes :
    (after (.ownEmptySlotOffer 0#5) ((running 1990000).onSched fun q =>
        { q with gate := [⟨2, 2034000#32, 2066510#32, 70000#32, 70003#32⟩] })).link.slotOut
      = some [0x32#8, 0x09#8, 0x00#8, 0x1F#8, 0x09#8, 0x50#8, 0x00#8, 0x1F#8, 0x88#8, 0x4E#8, 0x00#8, 0x01#8,
          0x11#8, 0x70#8, 0x11#8, 0x73#8] := by decide +kernel

/-- Table 8-3, cycle 3, slot 1: the reload to 4 and 1, and one credit of STACK spent. -/
theorem test_offer_reload :
    let s := after (.ownEmptySlotOffer 1#5) ((withStacks 2 [stack0 5 4 4 0 4 .filled true]
      (running 2000375)).onSched fun q =>
        { q with stack := [⟨2, 5⟩], notices := [⟨.stackDone, some 3, 2, 8#32⟩], stackCredit := 0,
                 noticeCredit := 0 })
    (s.sched.stackCredit, s.sched.noticeCredit, s.sched.stack) = (3, 1, []) := by decide +kernel

/-- Table 10-3, the expiry at 4 ms. -/
theorem test_linkLossTimerExpiry :
    let s := after .linkLossTimerExpiry ((running 5).onLink fun l => { l with timer := some 4 })
    s.link.timer = none ∧ s.link.linkDown = true ∧ s.job.state = .hold ∧ s.job.cause = .linkLoss
      ∧ s.sched.notices.head? = some ⟨.linkDown, none, 1, 4#32⟩ := by decide +kernel

/-- R132: a count of 4,000 reaches the timeout. -/
theorem test_changeTimerExpiry :
    let s := after (.changeTimerExpiry 0)
      (inChange.onLane 0 fun l => { l with timer := some ⟨4000, 4000⟩ })
    (s.lane 0).cause = .timeout ∧ (s.lane 0).timer = none := by decide +kernel

/-- Table 10-7, frame 7. -/
theorem test_read_length : codeOf (after (.read 5#8 0#16 0#8) base) = some .badLength := by decide +kernel

/-- Table 11-6, LOOP: the six fields of the base job, two bytes each. -/
theorem test_read_loop :
    (after (.read 3#8 0#16 1#8) base).link.response.map (fun r => r.data.take 13)
      = some [0x00#8, 0x80#8, 0x00#8, 0x10#8, 0x03#8, 0x20#8, 0x00#8, 0x60#8, 0x00#8, 0x0A#8, 0x00#8, 0x28#8,
          0x00#8] := by decide +kernel

/-- Table 9-7, event 2. -/
theorem test_writeJob_in_run :
    codeOf (after (.writeJob 0#16 1#8 (area job0.bytes)) (running 5)) = some .wrongState := by decide +kernel

/-- Table 11-4: bytes 1 and 2 are the repeat length, 30,000 = H'7530. -/
theorem test_writeJob :
    (after (.writeJob 0#16 1#8 (area [3#8, 0x75#8, 0x30#8, 4#8, 0x0F#8, 0xA0#8, 0x07#8, 0xD0#8, 1#8, 2#8, 0#8,
        0#8, 0x74#8, 0x04#8, 0#8, 0#8, 0x76#8, 0x5C#8, 0#8, 0#8, 0x9C#8, 0x40#8, 0x27#8, 0x10#8]))
        State.reset).job.job = job0 := by decide +kernel

/-- 9.4.1: the knife horizon rewritten as 20,000. -/
theorem test_writeStation :
    let s := after (.writeStation 0#16 1#8 (area station0.bytes)) (base.onJob fun j =>
      { j with station := { station0 with knifeHorizon := 58000 } })
    s.job.station.knifeHorizon = 20000 ∧ s.job.station.dC = -150000 ∧ codeOf s = some .ok := by
  decide +kernel

/-- The loop driven to its bounds (5.9). -/
def bounded : State :=
  (running 5).onCut fun c => { c with target := -800, applied := -800, integral := -204800 }

/-- Table 5-5, request 1: bytes 4 and 5 are the limit, 300 = H'012C. -/
theorem test_writeLoop_clamps :
    let s := after (.writeLoop 0#16 1#8 (area [0#8, 128#8, 0#8, 16#8, 0x01#8, 0x2C#8, 0#8, 96#8, 0#8, 10#8, 0#8,
      40#8])) bounded
    (s.cut.target, s.cut.applied, s.cut.integral, codeOf s) = (-300, -300, -76800, some .ok) := by
  decide +kernel

/-- Table 5-5, request 2: 900 = H'0384 is above the validated limit. -/
theorem test_writeLoop_refused :
    let s := after (.writeLoop 0#16 1#8 (area [0#8, 128#8, 0#8, 16#8, 0x03#8, 0x84#8, 0#8, 96#8, 0#8, 10#8, 0#8,
      40#8])) bounded
    (s.cut.target, s.job.loop.limit, codeOf s) = (-800, 800, some .badValue) := by decide +kernel

/-- R17: entry 1 alone. -/
theorem test_writeSensor :
    (after (.writeSensor 1#16 1#8 (area [1#8])) base).reg.edges = #v[.leading, .trailing] := by decide +kernel

/-- Table 10-7, frame 2. -/
theorem test_writeLane_index :
    codeOf (after (.writeLane 6#16 3#8 (area [])) base) = some .badIndex := by decide +kernel

/-- Table 11-6, LANE: node 21, target 4, change gap 1, hold limit 2, timeout 4,000. -/
theorem test_writeLane :
    ((after (.writeLane 0#16 1#8 (area [1#8, 21#8, 0#8, 4#8, 1#8, 2#8, 0x0F#8, 0xA0#8, 0x03#8, 0xE8#8, 0x05#8,
        0xDC#8])) base).cfg 0) = ⟨true, 21, 4, 1, 2, 4000, 1000, 1500⟩ := by decide +kernel

/-- Table 10-7, frames 5 and 6. -/
theorem test_writeDisp_refused :
    codeOf (after (.writeDisp 6#16 4#8 (area [])) base) = some .badAlign
      ∧ codeOf (after (.writeDisp 124#16 8#8 (area [])) base) = some .badIndex := by decide +kernel

/-- Table 11-6, DISP: bit 7 valid, action codes. -/
theorem test_writeDisp :
    let s := after (.writeDisp 16#16 4#8 (area [0x81#8, 0x82#8, 0x80#8, 0x01#8])) base
    s.disp.disp[17] = ⟨true, .follow⟩ ∧ s.disp.disp[19] = ⟨false, .stack⟩ ∧ s.disp.disp[20] = .powerOn := by
  decide +kernel

/-- Table 11-6, OVERRIDE. -/
theorem test_writeOverride :
    (after (.writeOverride 5#16 1#8 (area [1#8, 1#8, 0#8, 0#8, 0x01#8, 0xF4#8, 0#8, 0#8, 0x02#8, 0x12#8, 1#8]))
        base).disp.overrides[5] = ⟨true, .forceAccept, 500#32, 530#32, 1#8⟩ := by decide +kernel

/-- R148, R149: the entry is replaced and every credit reloaded. -/
theorem test_writeSched :
    let s := after (.writeSched 2#16 1#8 (area [1#8, 7#8])) (base.onSched fun q => { q with stackCredit := 0 })
    (s.sched.gateCredit, s.sched.stackCredit, s.sched.noticeCredit) = (0, 4, 7) := by decide +kernel

/-- Table 11-8: node 12, RUN, no cause, FREE, and the estimate 30,000. -/
theorem test_readStatus :
    (after .readStatus (running 5)).link.response.map (fun r => r.data.take 8)
      = some [12#8, 2#8, 0#8, 0#8, 0#8, 0#8, 0x75#8, 0x30#8] := by decide +kernel

/-- Table 10-7, frame 8. -/
theorem test_readCounters_lane : codeOf (after (.readCounters 9#8 0#8) base) = some .badLane := by
  decide +kernel

/-- Table 10-7, frame 9: the eleven counters returned, then set to 0. -/
theorem test_readCounters_device :
    let s := after (.readCounters 0xFF#8 1#8) (base.onLink fun l => { l with badFrames := 8#32 })
    s.link.badFrames = 0#32 ∧ s.link.response.map (fun r => r.data.take 4) = some [0#8, 0#8, 0#8, 8#8] := by
  decide +kernel

/-- 2.9.1: the request clears whichever flags stand. -/
theorem test_ackAlarms :
    let s := after .ackAlarms (base.onReg fun r => { r with pitchLow := true, pitchHigh := true })
    (s.reg.pitchLow, s.reg.pitchHigh) = (false, false) := by decide +kernel

/-- Table 2-4, third sample, mode off and mode on. -/
theorem test_alarm_modes :
    let s (mode : Bool) : State :=
      let r := (running 5).onReg fun r => { r with pitchHigh := true, samples := [29930, 30070, 30060] }
      (r.onJob fun j => { j with job := { job0 with
        depth := 1, lowThreshold := 29950, highThreshold := 30050, windowMode := mode } }).placeSample 29920
    ((s false).reg.pitchLow, (s false).reg.pitchHigh, (s true).reg.pitchHigh, (s true).reg.estimate)
      = (true, true, false, 29925) := by decide +kernel

/-- R136. -/
theorem test_laneEnable :
    ((after (.laneEnable 0#8) (base.onLane 0 fun l => { l with state := .fault, cause := .node })).lane 0).state
      = .ready := by decide +kernel

/-- R137. -/
theorem test_closeStack :
    let s := after (.closeStack 0#8) (withStacks 0 [stack0 12 3 3 0 4 .assigning false] base)
    (s.lane 0).list.map (fun r => (r.state, r.short, r.requested)) = [(.filled, true, true)]
      ∧ s.sched.stack = [⟨0, 12⟩] := by decide +kernel

/-- 9.4.1, first ARM: KNIFE_HORIZON, reason 6. -/
theorem test_arm_refused :
    (after .arm (base.onJob fun j => { j with station := { station0 with knifeHorizon := 58000 } })
      ).link.response.map (fun r => (r.code, r.data.head?)) = some (.badJob, some 6#8) := by decide +kernel

/-- 9.4.1, second ARM. -/
theorem test_arm :
    let s := after .arm (base.onJob fun j => { j with validated := 0 })
    (s.job.state, s.job.validated, codeOf s) = (.armed, 800, some .ok) := by decide +kernel

/-- Table 5-4, START at P = 500,000. -/
theorem test_start :
    let s := after .start ((inState .armed base).setPos 500000#32)
    (s.job.state, s.cut.ramp, s.reg.lastAnchor, s.reg.firstRecord) = (.run, 3, 500000#32, true) := by
  decide +kernel

/-- R59: the open record becomes the tail, closed one repeat on. -/
theorem test_endJob :
    let s := after .endJob (withQueue [rec0 7 1000000] (running 1010000))
    s.track.queue.map (fun r => (r.tail, r.nominalEnd)) = [(true, some 1034000#32)] ∧ s.job.state = .ending := by
  decide +kernel

/-- Table 9-7, event 6. -/
theorem test_halt_in_hold : codeOf (after .halt (inState .hold base)) = some .wrongState := by decide +kernel

/-- R165. -/
theorem test_halt : (after .halt (running 5)).job.cause = .halt := by decide +kernel

/-- Table 9-7, event 8. -/
theorem test_resume :
    let s := after .resume ((inState .hold base).onCut fun c => { c with target := -9, ramp := 50 })
    (s.job.state, s.cut.ramp, s.cut.target) = (.run, 3, -9) := by decide +kernel

/-- Table 9-7, event 13. -/
theorem test_clear :
    let s := after .clear (inState .armed base)
    (s.job.state, s.job.validated, codeOf s) = (.config, 800, some .ok) := by decide +kernel

/-- R178: tables kept, state cleared. -/
theorem test_softReset :
    let s := after .softReset (running 777)
    (s.track.pos, s.job.state, s.job.validated, s.cut.ramp) = (0#32, .config, 0, 3) ∧ s.job.job = job0 := by
  decide +kernel

/-- R174. -/
theorem test_unknownRequestKind : codeOf (after (.unknownRequestKind 9#8) base) = some .badValue := by
  decide +kernel

/-- Table 10-7, frame 1. -/
theorem test_writeNoTable : codeOf (after (.writeNoTable 9#8 0#16 1#8 (area [])) base) = some .noTable := by
  decide +kernel

/-! ## Witnesses: a state and operands that meet the hypotheses of each obligation that has any -/

/-- A job in RUN that every invariant holds of: a committed record, an open one, and a stack in change. -/
def lively : State :=
  let e : LaneEntry := { LaneEntry.fresh with outcome := some .stack, stackRef := some 13 }
  let w : LaneEntry := { LaneEntry.fresh with outcome := some .waste }
  let old : Record := { rec0 6 1000000 with
    nominalEnd := some 1034000#32, cut := .sent, cutLine := some 1004000#32, commit := .committed
    lanes := #v[e, w, w, .fresh, .fresh, .fresh, .fresh, .fresh] }
  let s := withQueue [old, rec0 7 1030000] inChange
  { s with
    track := { s.track with pos := 1035000#32, nextSerial := 8#32 }
    reg := { s.reg with state := .locked, lastAnchor := 1030000#32, lastOrigin := some .marked }
    cut := { s.cut with target := -800, applied := 800, integral := 204800, ramp := 96 } }

theorem webbreak_answers (s : State) : exec .webbreak s = .next (after .webbreak s) := rfl

theorem witness_FrontCommandRuns :
    ({ base with pending := [.arm, .start] } : State).pending = .arm :: [.start] ∧ base.pending = [] := by
  decide +kernel

theorem witness_SoftResetKeepsTables : lively.addressed = true := by decide +kernel

theorem witness_FramesAreTaken :
    lively.addressed = true ∧ frameValid cycleFrame = true ∧ isCycle cycleFrame = true
      ∧ frameValid serviceFrame = true ∧ isCycle serviceFrame = false ∧ frameValid badCycleFrame = false := by
  decide +kernel

/-- R169, R179: the slot counts 0 and 33 are bad, each at its own length, and 0 with its CRC. -/
theorem test_frame_slot_counts :
    frameValid (sealFrame ([0xA5#8, 0#8] ++ List.replicate 4 0#8)) = false
      ∧ cycleShape ([0xA5#8, 33#8] ++ List.replicate 532 0#8) = false := by decide +kernel

/-- The addresses at the ends of the range in use, and those outside it. -/
theorem witness_addresses :
    (State.powerOn 1#6).addressed = true ∧ (State.powerOn 62#6).addressed = true
      ∧ (State.powerOn 0#6).addressed = false ∧ (State.powerOn 63#6).addressed = false := by decide +kernel

theorem witness_UnaddressedPartOnlyForwards :
    (State.powerOn 63#6).addressed = false ∧ (State.powerOn 0#6).addressed = false
      ∧ (State.powerOn 63#6).link.timer = none ∧ (∀ k : Fin 8, ((State.powerOn 63#6).lane k).timer = none)
      ∧ (∀ straps, Instr.webbreak ≠ .powerOnReset straps)
      ∧ ∀ b, Instr.webbreak ≠ .validFrame b ∧ Instr.webbreak ≠ .badFrame b :=
  ⟨by decide +kernel, by decide +kernel, by decide +kernel, by decide +kernel, (fun _ h => by cases h),
    fun _ => ⟨(fun h => by cases h), (fun h => by cases h)⟩⟩

theorem witness_AlteredFramesStayValid :
    (area []).length = 64 ∧ serviceShape serviceFrame = true
      ∧ (List.replicate 16 1#8).length = 16 ∧ cycleShape cycleFrame = true
      ∧ 0 < (byteAt cycleFrame 1).toNat ∧ serviceShape cycleFrame = false ∧ cycleShape serviceFrame = false
      ∧ cycleShape ([0xA5#8, 32#8] ++ List.replicate 516 0#8) = true
      ∧ 31 < (byteAt ([0xA5#8, 32#8] ++ List.replicate 516 0#8) 1).toNat := by decide +kernel

theorem witness_SlotsAndRequestsAreRead :
    9 ≤ (9#8).toNat ∧ 9 ≤ (0x50#8).toNat ∧ (area [1#8]).length = 64 ∧ (0#8).toNat = 0
      ∧ 8 < (9#8).toNat ∧ [0x00#8, 0x08#8, 0x0F#8, 0x16#8, 0x1E#8, 0x20#8].all (fun kind => !namesRequest kind) = true := by
  decide

/-- A bad frame, a cycle frame and a service frame; the addresses at the ends of the range in use and outside it. -/
theorem witness_FramesBringWellFormedCommands :
    let inUse (node : BitVec 6) : Bool := decide (1 ≤ node.toNat ∧ node.toNat ≤ 62)
    frameValid badCycleFrame = false ∧ frameValid cycleFrame = true ∧ isCycle cycleFrame = true
      ∧ frameValid serviceFrame = true ∧ isCycle serviceFrame = false
      ∧ inUse 0#6 = false ∧ inUse 1#6 = true ∧ inUse 62#6 = true ∧ inUse 63#6 = false := by decide +kernel

/-- Entries at the bounds of their ranges, and entries whose unread bytes are not 0. -/
theorem witness_TableEntriesReadBack :
    let lane : List Byte := [0#8, 1#8, 0#8, 1#8, 0#8, 0#8, 0#8, 1#8, 0#8, 0#8, 0#8, 0#8]
    let station : List Byte := station0.bytes.take 45 ++ [1#8, 2#8, 3#8]
    let override : List Byte := [1#8, 1#8] ++ List.replicate 9 0xFF#8 ++ [9#8]
    job0.InRange ∧ station0.InRange ∧ loop0.InRange
      ∧ (⟨true, 62, 65535, 15, 15, 65535, 10000, 10000⟩ : LaneCfg).InRange
      ∧ (⟨.ratio, 15⟩ : SchedEntry).InRange
      ∧ JobRec.parse job0.bytes = some job0 ∧ job0.bytes.length = 24
      ∧ StationRec.parse station = some station0 ∧ station.length = 48
      ∧ LoopRec.parse loop0.bytes = some loop0 ∧ loop0.bytes.length = 12
      ∧ LaneCfg.parse lane = some ⟨false, 1, 1, 0, 0, 1, 0, 0⟩ ∧ lane.length = 12
      ∧ SchedEntry.parse [0#8, 1#8] = some ⟨.strict, 1⟩
      ∧ OverrideEntry.parse override = some ⟨true, .forceAccept, 0xFFFFFFFF#32, 0xFFFFFFFF#32, 0xFF#8⟩
      ∧ override.length = 12 ∧ DispEntry.parse [0x82#8] = some ⟨true, .follow⟩
      ∧ Edge.parse [1#8] = some .trailing := by
  refine ⟨?_, ?_, ?_, ?_, ?_, ?_, ?_, ?_, ?_, ?_, ?_, ?_, ?_, ?_, ?_, ?_, ?_, ?_⟩ <;> decide +kernel

/-- R181: a flag byte of 2, the action 3 and a set reserved bit are refused. -/
theorem test_flags_refused :
    SchedEntry.parse [2#8, 1#8] = none ∧ Edge.parse [2#8] = none ∧ DispEntry.parse [0x83#8] = none
      ∧ DispEntry.parse [0x84#8] = none := by decide +kernel

theorem witness_ReadReturnsEntries :
    base.addressed = true ∧ (0#8).toNat = 0 ∧ 8 < (9#8).toNat
      ∧ (base.tableEntries 5#8).map (fun e => (e.1, e.2.length)) = some (12, 8)
      ∧ 64 < (6#8).toNat * 12
      ∧ (5#8).toNat * 12 ≤ 64 ∧ 8 < (4#16).toNat + (5#8).toNat ∧ (3#16).toNat + (5#8).toNat ≤ 8 := by
  decide +kernel

theorem witness_SingleWritesReplaceTheRecord :
    base.addressed = true ∧ base.job.state = .config ∧ (running 5).addressed = true
      ∧ JobRec.parse (slice 0 24 (area job0.bytes)) = some job0
      ∧ StationRec.parse (slice 0 48 (area station0.bytes)) = some station0
      ∧ LoopRec.parse (slice 0 12 (area loop0.bytes)) = some loop0
      ∧ ((running 5).job.state ≠ .config → loop0.limit ≤ (running 5).job.validated) := by decide +kernel

theorem witness_TableWritesReplaceTheEntries :
    base.addressed = true ∧ base.job.state = .config ∧ (inState .armed base).job.state = .armed
      ∧ (1#16).toNat + (1#8).toNat ≤ 2 ∧ (3#16).toNat + (5#8).toNat ≤ 8 ∧ (5#8).toNat * 12 ≤ 64
      ∧ (120#16).toNat % 4 = 0 ∧ (120#16).toNat + (8#8).toNat ≤ 128 ∧ (27#16).toNat + (5#8).toNat ≤ 32
      ∧ (0#16).toNat + (3#8).toNat ≤ 3
      ∧ (∀ i, i < 1 → (Edge.parse (slice i 1 (area [1#8]))).isSome = true)
      ∧ (∀ i, i < 5 → (LaneCfg.parse (slice (i * 12) 12
          (area (List.replicate 5 (LaneCfg.bytes ⟨true, 1, 1, 0, 0, 1, 0, 0⟩)).flatten))).isSome = true)
      ∧ (∀ i, i < 8 → (DispEntry.parse (slice i 1 (area []))).isSome = true)
      ∧ (∀ i, i < 5 → (OverrideEntry.parse (slice (i * 12) 12 (area []))).isSome = true)
      ∧ (∀ i, i < 3 → (SchedEntry.parse (slice (i * 2) 2
          (area [0#8, 1#8, 1#8, 15#8, 0#8, 2#8]))).isSome = true) := by
  decide +kernel

theorem witness_WritesRefusedInOrder :
    (running 5).addressed = true ∧ (running 5).writable 1#8 = false ∧ base.writable 6#8 = true
      ∧ dispMisaligned 6#8 6#16 4#8 = true ∧ dispMisaligned 6#8 124#16 8#8 = false
      ∧ (base.tableEntries 6#8).map (fun e => (e.1, e.2.length)) = some (1, 128)
      ∧ 128 < (124#16).toNat + (8#8).toNat ∧ dispMisaligned 5#8 0#16 0#8 = false ∧ (0#8).toNat = 0
      ∧ base.entryTaken 5#8 (slice 0 12 (area [])) = false ∧ 8 < (9#8).toNat
      ∧ namesRequest 8#8 = false := by decide +kernel

theorem witness_StatusRecordLayout : lively.addressed = true := by decide +kernel

theorem witness_CountersReadAndCleared :
    base.addressed = true ∧ (7#8).toNat = (7 : Fin 8).val ∧ (0#8).toNat = (0 : Fin 8).val
      ∧ 8 ≤ (8#8).toNat ∧ 8#8 ≠ 0xFF#8 ∧ 8 ≤ (254#8).toNat ∧ 254#8 ≠ 0xFF#8 := by decide +kernel

theorem witness_ReportsSetOrFaultThePosition :
    base.addressed = true ∧ base.running = false ∧ (running 1000).running = true
      ∧ 1000#32 = (running 1000).track.pos ∧ 65535 < diff 66536#32 (running 1000).track.pos
      ∧ diff 799#32 (running 1000).track.pos < -((running 1000).job.station.reverseTolerance : Int) := by
  decide +kernel

theorem witness_SmallReverseIsHeld :
    (running 1000).addressed = true ∧ (running 1000).running = true
      ∧ diff 999#32 (running 1000).track.pos = -1 ∧ diff 800#32 (running 1000).track.pos = -200
      ∧ (running 1000).job.station.reverseTolerance = 200 := by decide +kernel

/-- A cut line of 1,004,000: late beyond 1,056,000, expired from 1,094,000, to be committed from 1,134,000; a tail's
label end of 1,034,000 arrives at 1,214,000. -/
theorem witness_AdvanceTakesWhatIsDue :
    let r : Record := { rec0 6 1000000 with cut := .sent, cutLine := some 1004000#32, tail := true }
    let late (p : Word) : Bool := beyond p (shift (shift 1004000#32 station0.dK) (-(station0.knifeLead : Int)))
    let expired (p : Word) : Bool := atOrBeyond p (shift (shift 1004000#32 station0.dK)
      ((station0.dX : Int) - station0.dK + (job0.pitch / 2 : Nat)))
    let commits (p : Word) : Bool :=
      atOrBeyond p (shift 1004000#32 ((station0.dG : Int) - station0.gateHorizon))
    let arrives (p : Word) : Bool := atOrBeyond p (shift (shift 1004000#32 job0.pitch) station0.dS)
    lively.addressed = true ∧ lively.running = true ∧ diff 1035001#32 lively.track.pos = 1
      ∧ diff 1100535#32 lively.track.pos = 65535
      ∧ ((running 532001).onReg fun r => { r with lastAnchor := 500000#32 }).predictOne.isSome = true
      ∧ ((running 532000).onReg fun r => { r with lastAnchor := 500000#32 }).predictOne = none
      ∧ (∀ x ∈ lively.track.queue, x.serial ≠ 8#32) ∧ lively.SerialsApart
      ∧ (∃ x, lively.track.queue = [] ++ x :: [rec0 7 1030000] ∧ x.commit = .committed)
      ∧ ({ r with cut := .queued } : Record).cut = .queued ∧ r.cut = .sent ∧ r.check = .unchecked
      ∧ r.cutLine = some 1004000#32 ∧ r.commit = .uncommitted ∧ r.tail = true
      ∧ late 1056001#32 = true ∧ late 1056000#32 = false ∧ expired 1094000#32 = true
      ∧ expired 1093999#32 = false ∧ commits 1134000#32 = true ∧ commits 1133999#32 = false
      ∧ arrives 1214000#32 = true ∧ arrives 1213999#32 = false := by
  refine ⟨by decide +kernel, by decide +kernel, by decide +kernel, by decide +kernel, by decide +kernel,
    by decide +kernel, by decide +kernel, by decide +kernel, ⟨_, rfl, rfl⟩, ?_⟩
  decide +kernel

/-- FREE at P = 532,001 and at 532,000 from the anchor 500,000; ACQUIRE with the missing counter below and at
the limit. -/
theorem witness_PredictionCreatesTheRecord :
    let f (p : Nat) : State := (running p).onReg fun r => { r with lastAnchor := 500000#32 }
    let a (p m : Nat) : State := (f p).onReg fun r => { r with state := .acquire, missing := m }
    (f 532001).job.state = .run ∧ (f 532001).track.queue.length < 256 ∧ (f 532001).NextSerialFree
      ∧ (f 532001).reg.state = .free ∧ lively.SerialsApart ∧ lively.YoungestUncommitted ∧ lively.NextSerialFree
      ∧ beyond 532001#32 (shift 500000#32 ((job0.pitch : Int) + job0.window)) = true
      ∧ beyond 532000#32 (shift 500000#32 ((job0.pitch : Int) + job0.window)) = false
      ∧ (a 532001 0).reg.state ≠ .free ∧ (a 532001 0).pitchEstimate = 30000
      ∧ (a 532001 0).NextSerialFree ∧ (a 532001 0).reg.missing + 1 ≤ (a 532001 0).job.job.missingLimit
      ∧ (a 532001 1).job.job.missingLimit < (a 532001 1).reg.missing + 1 := by
  decide +kernel

/-- Table 2-3: the seek interval 515,000 to 532,000, and the acceptance window 558,150 to 562,150. -/
theorem witness_MarkCreatesTheRecord :
    let f : State := (running 540000).onReg fun r => { r with lastAnchor := 500000#32 }
    let a : State := (running 540000).onReg fun r => { r with state := .acquire, lastAnchor := 530150#32 }
    f.addressed = true ∧ f.job.state = .run ∧ f.track.queue.length < 256 ∧ f.NextSerialFree
      ∧ a.NextSerialFree ∧ f.reg.state = .free ∧ a.reg.state ≠ .free
      ∧ f.SerialsApart ∧ f.YoungestUncommitted ∧ lively.SerialsApart ∧ lively.YoungestUncommitted
      ∧ ([515000#32, 532000#32].all fun x => !beyond x (shift f.track.pos f.job.job.pitch)
          && fromThrough x (shift f.reg.lastAnchor (f.job.job.pitch / 2 : Nat))
              (shift f.reg.lastAnchor ((f.job.job.pitch : Int) + f.job.job.window))) = true
      ∧ ([558150#32, 562150#32].all fun x => !beyond x (shift a.track.pos a.job.job.pitch)
          && fromThrough x (shift a.reg.lastAnchor (a.pitchEstimate - a.job.job.window))
              (shift a.reg.lastAnchor (a.pitchEstimate + a.job.job.window))) = true := by
  decide +kernel

theorem witness_OtherMarksAreFiltered :
    let f : State := (running 540000).onReg fun r => { r with lastAnchor := 500000#32 }
    let a : State := (running 540000).onReg fun r => { r with state := .acquire, lastAnchor := 530150#32 }
    let full (s : State) : State := withQueue (List.replicate 256 (rec0 1 0)) s
    f.addressed = true ∧ 2 ≤ (2#8).toNat ∧ base.job.state ≠ .run
      ∧ (∃ h : (0#8).toNat < 2, (1#8 : Byte) ≠ (f.reg.edges[(0#8).toNat]'h).byte)
      ∧ f.job.state = .run ∧ f.reg.state = .free ∧ a.reg.state ≠ .free
      ∧ fromThrough 514999#32 (shift f.reg.lastAnchor (f.job.job.pitch / 2 : Nat))
          (shift f.reg.lastAnchor ((f.job.job.pitch : Int) + f.job.job.window)) = false
      ∧ beyond 570001#32 (shift f.track.pos f.job.job.pitch) = true
      ∧ fromThrough 562151#32 (shift a.reg.lastAnchor (a.pitchEstimate - a.job.job.window))
          (shift a.reg.lastAnchor (a.pitchEstimate + a.job.job.window)) = false
      ∧ 1 < f.job.job.cycle
      ∧ (f.onJob fun j => { j with job := { job0 with cycle := 1 } }).job.job.cycle ≤ 1
      ∧ 256 ≤ (full f).track.queue.length ∧ 256 ≤ (full a).track.queue.length
      ∧ (full ((running 532001).onReg fun r => { r with lastAnchor := 500000#32 })).predictOne.isSome
          = true := by
  refine ⟨by decide +kernel, by decide, by decide +kernel, ⟨by decide, by decide +kernel⟩, ?_⟩
  decide +kernel

/-- 2.8.1: depths 0, 1 and 3 with six samples, and a full ring. -/
theorem witness_SampleSetsTheEstimate :
    let five : List Int := [30015, 30009, 30012, 30004, 30020]
    let ring (r : List Int) : List Int := (30011 :: r).take 32
    (ring five).length = 6 ∧ (ring five).length < 2 ^ 3 ∧ 2 ^ 0 ≤ (ring five).length
      ∧ 2 ^ (0 + 1) ≤ (ring five).length ∧ 2 ^ (4 + 1) ≤ (ring (List.replicate 31 30000)).length := by
  decide +kernel

theorem witness_AlarmsLatchUntilAcknowledged :
    let s (e : Int) (lo hi : Bool) : State :=
      base.onReg fun r => { r with estimate := e, pitchLow := lo, pitchHigh := hi }
    base.job.job.lowThreshold < base.job.job.highThreshold
      ∧ (s 29699 false true).reg.estimate < job0.lowThreshold ∧ (s 29699 true false).reg.pitchLow = true
      ∧ (job0.highThreshold : Int) < (s 30301 true false).reg.estimate
      ∧ (s 30301 false true).reg.pitchHigh = true
      ∧ (job0.lowThreshold : Int) ≤ (s 29700 false false).reg.estimate
      ∧ (s 30300 false false).reg.estimate ≤ job0.highThreshold ∧ base.addressed = true
      ∧ State.reset.addressed = true := by decide +kernel

theorem witness_HoldDiscardsAndAccounts : atHold.running = true ∧ base.running = false := by decide +kernel

theorem witness_HoldCausesTakeEffect :
    lively.addressed = true ∧ lively.running = true ∧ base.running = false
      ∧ (State.powerOn 63#6).link.timer = none ∧ base.link.timer = some 10
      ∧ ((lively.onLink fun l => { l with timer := none, linkDown := true }).notify .linkDown none
          (BitVec.ofNat 32 10)).running = true
      ∧ ((base.onLink fun l => { l with timer := none, linkDown := true }).notify .linkDown none
          (BitVec.ofNat 32 10)).running = false := by decide +kernel

theorem witness_ZonesInsertedInOrder :
    (base.onTrack fun u => { u with zones := fullList.tail }).track.zones.length = 63 := by decide +kernel

/-- The list of Table 4-2 lies within half a circle of its first x_lo; its 59 equal zones stand at one distance. -/
theorem witness_FullListMerges :
    let z : Zone := ⟨.defect, 2144000#32, 2144300#32, 2#8⟩
    let below : Zone := ⟨.defect, 2141000#32, 2141400#32, 1#8⟩
    let above : Zone := ⟨.defect, 2146500#32, 2146800#32, 4#8⟩
    let across : Zone := ⟨.splice, 2143000#32, 2158000#32, 0xFF#8⟩
    let apart (y : Zone) : Prop := ¬(atOrBeyond y.hi z.lo = true ∧ atOrBeyond z.hi y.lo = true)
    (base.onTrack fun u => { u with zones := fullList }).track.zones.length = 64
      ∧ (fullList.all fun x => decide ((x.lo - 2012500#32).toNat < 2147483648)) = true
      ∧ fullList[2]? = fullList[60]?
      ∧ atOrBeyond across.hi z.lo = true ∧ atOrBeyond z.hi across.lo = true
      ∧ apart above ∧ beyond above.lo z.hi = true ∧ beyond z.lo above.hi = false
      ∧ apart below ∧ beyond z.lo below.hi = true ∧ beyond below.lo z.hi = false := by decide +kernel

/-- R73 step 1 of two zones half a circle apart, each beyond the other: one gap both ways, and two gaps. -/
theorem witness_FullListMerges_bothBeyond :
    let z : Zone := ⟨.defect, 0#32, 1#32, 1#8⟩
    let y (hi : Word) : Zone := ⟨.defect, 2147483648#32, hi, 1#8⟩
    let apart (y : Zone) : Prop := ¬(atOrBeyond y.hi z.lo = true ∧ atOrBeyond z.hi y.lo = true)
      ∧ beyond y.lo z.hi = true ∧ beyond z.lo y.hi = true
    apart (y 2147483649#32) ∧ apart (y 2147483650#32)
      ∧ z.lo - (y 2147483649#32).hi = (y 2147483649#32).lo - z.hi
      ∧ z.lo - (y 2147483650#32).hi ≠ (y 2147483650#32).lo - z.hi := by decide +kernel

/-- R73 step 1: where each zone is beyond the other and both gaps are 2,147,483,647, that is the distance. -/
theorem test_zoneDistance_bothBeyond :
    zoneDistance ⟨.defect, 0#32, 1#32, 1#8⟩ ⟨.defect, 2147483648#32, 2147483649#32, 1#8⟩ = 2147483647 :=
  ite_self 2147483647

/-- Zones that end at the frontier 1,034,000, just before it, and just before the oldest record's start. -/
theorem witness_ReportsReachRecordsAndList :
    let listed (hi : Word) : Bool := lively.track.queue.getLast?.all fun r =>
      atOrBeyond hi (r.nominalEnd.getD r.nominalStart)
    let hit (hi : Word) : Bool := lively.track.queue.any fun r =>
      r.nominalEnd.any fun e => behind 1003000#32 e && atOrBeyond hi r.nominalStart
    base.addressed = true ∧ base.job.state = .config ∧ 0xF8#8 &&& lanesBelow (running 5).job.job.lanes = 0#8
      ∧ (running 5).job.state ≠ .config ∧ 4#8 &&& lanesBelow (running 5).job.job.lanes ≠ 0#8
      ∧ lively.SerialsApart ∧ listed 1034000#32 = true
      ∧ listed 1033999#32 = false ∧ hit 1033999#32 = true
      ∧ listed 1003999#32 = false ∧ hit 1003999#32 = false := by decide +kernel

theorem witness_ClosingSweepsTheList :
    lively.SerialsApart ∧ rec0 7 1030000 ∈ lively.track.queue
      ∧ (rec0 7 1030000).commit = .uncommitted := by decide +kernel

/-- A PENDING record of anchor 1,030,000 and applied correction 0: the cut is due from 1,074,000 and late beyond
1,086,000. -/
theorem witness_CutsAreBuiltOrLate :
    let r := rec0 7 1030000
    let at' (p : Nat) : State := withQueue [r] (running p)
    let point : Word := shift r.anchor ((4000 : Int) + 0 + 60000 - 8000)
    let duePoint : Word := shift r.anchor ((4000 : Int) + 60000 - 20000)
    r.cut = .pending ∧ beyond (at' 1086001).track.pos point = true
      ∧ beyond (at' 1086000).track.pos point = false
      ∧ atOrBeyond (at' 1074000).track.pos duePoint = true
      ∧ atOrBeyond (at' 1073999).track.pos duePoint = false
      ∧ (at' 1074000).sched.knife.length < 8
      ∧ 8 ≤ ((at' 1074000).onSched fun q =>
          { q with knife := List.replicate 8 ⟨1#32, 0#32⟩ }).sched.knife.length := by decide +kernel

theorem witness_LateCutIsReported :
    (withQueue [rec0 7 1030000] (running 5)).track.queue = rec0 7 1030000 :: []
      ∧ lively.SerialsApart
      ∧ (∃ b, lively.track.queue = [] ++ b :: rec0 7 1030000 :: [] ∧ b.commit = .committed)
      ∧ (withQueue [rec0 6 1000000, rec0 7 1030000] (running 5)).SerialsApart
      ∧ (rec0 6 1000000).commit = .uncommitted := by
  refine ⟨rfl, by decide +kernel, ⟨_, rfl, rfl⟩, by decide +kernel, rfl⟩

/-- 5.8, and a LOCKED state; the errors 10 and 11 about the lock tolerance, 40 and 41 about the unlock
tolerance. -/
theorem witness_MeasurementMovesTheLoop :
    let r : Record := { rec0 300 530000 with cut := .sent, cutLine := some 534000#32 }
    base.addressed = true ∧ (∀ x ∈ base.track.queue, ¬(x.cut = .sent ∧ x.check = .unchecked))
      ∧ (measured 16).addressed = true ∧ (measured 16).track.queue = [] ++ r :: [] ∧ (measured 16).SerialsApart
      ∧ r.cut = .sent ∧ r.check = .unchecked ∧ r.origin ≠ .free ∧ (1#8 : Byte) ≠ 0#8
      ∧ (measured 16).reg.state = .acquire
      ∧ (clamp (10#16).toInt (-4095) 4095).natAbs ≤ loop0.lockTolerance
      ∧ loop0.lockTolerance < (clamp (11#16).toInt (-4095) 4095).natAbs
      ∧ loop0.unlockTolerance < (clamp (41#16).toInt (-4095) 4095).natAbs
      ∧ (clamp (40#16).toInt (-4095) 4095).natAbs ≤ loop0.unlockTolerance := by decide +kernel

theorem witness_UnusedMeasurementIsIgnored :
    let r : Record := { rec0 300 530000 with cut := .sent, origin := .free }
    let s := withQueue [rec0 299 500000, r] (running 609000)
    s.addressed = true ∧ s.track.queue = [rec0 299 500000] ++ r :: [] ∧ s.SerialsApart
      ∧ (∀ x ∈ [rec0 299 500000], ¬(x.cut = .sent ∧ x.check = .unchecked)) ∧ r.cut = .sent
      ∧ r.check = .unchecked ∧ ((0#8 : Byte) = 0#8 ∨ r.origin = .free) := by decide +kernel

theorem witness_LowestOverrideMatches :
    let one : OverrideEntry := ⟨true, .forceAccept, 7#32, 7#32, 1#8⟩
    let all : OverrideEntry := ⟨true, .forceReject, 0#32, 4294967295#32, 0x80#8⟩
    one.valid = true ∧ one.lanes.getLsbD (0 : Fin 8).val = true ∧ one.last = one.first
      ∧ all.valid = true ∧ all.lanes.getLsbD (7 : Fin 8).val = true ∧ all.first = all.last + 1#32
      ∧ lively.SerialsApart ∧ rec0 7 1030000 ∈ lively.track.queue := by decide +kernel

/-- Record 520 of 6.9 stacks its label of lane 0 and passes the record's steps in every lane; the other records and
states meet the other clauses. -/
theorem witness_OutcomesFollowTheSteps :
    let r : Record := { rec0 520 3000010 with design := 2, cut := .sent }
    let m : Record → Option OverrideAction := fun x => fourLanes.disp.overrideFor x.serial 0
    let entry : OverrideEntry := ⟨true, .forceReject, 520#32, 520#32, 1#8⟩
    let rejecting : Disposition := { fourLanes.disp with overrides := fourLanes.disp.overrides.set 4 entry }
    let faulted := fourLanes.onLane 0 fun l => { l with state := .fault, cause := .node }
    ({ r with tail := true } : Record).tail = true ∧ r.tail = false ∧ m r = some .forceAccept
      ∧ (fourLanes.decideLane r 0).1.outcome = .stack
      ∧ ({ r with cls := .acquire } : Record).cls ≠ .locked ∧ m r ≠ some .forceReject
      ∧ ({ r with lateNext := true } : Record).lateNext = true ∧ ({ r with cut := .late } : Record).cut = .late
      ∧ ({ r with origin := .predicted } : Record).origin = .predicted ∧ fourLanes.job.job.policy = .reject
      ∧ m { r with serial := 531#32 } ≠ some .forceAccept
      ∧ rejecting.overrideFor 520#32 0 = some .forceReject
      ∧ (r.cls = .locked ∧ r.cut ≠ .late ∧ r.lateNext = false ∧ r.origin ≠ .predicted
        ∧ ∀ k : Fin 8, r.lanes[k.val].splice = false ∧ r.lanes[k.val].defect = false
            ∧ fourLanes.disp.overrideFor r.serial k ≠ some .forceReject)
      ∧ fourLanes.disp.tableStep 2 2 = some (.waste, .table) ∧ fourLanes.disp.tableStep 2 1 = none
      ∧ fourLanes.disp.tableStep 2 0 = none ∧ (base.cfg 0).enabled = false ∧ (fourLanes.cfg 0).enabled = true
      ∧ (faulted.lane 0).state = .fault ∧ (fourLanes.lane 1).state = .ready ∧ (fourLanes.lane 1).gap = 1
      ∧ (fourLanes.lane 0).state = .ready ∧ (fourLanes.lane 0).gap = 0 := by
  refine ⟨?_, ?_, ?_, ?_, ?_, ?_, ?_, ?_, ?_, ?_, ?_, ?_, ?_, ?_⟩ <;> decide +kernel

theorem witness_DispFollowsLaneZeroOnce :
    let d (a b : DispEntry) : Disposition :=
      { Disposition.powerOn with disp := (Disposition.powerOn.disp.set 120 a).set 127 b }
    let e (x : Disposition) := x.disp[(15 : Fin 16).val * 8 + (7 : Fin 8).val]
    let e0 (x : Disposition) := x.disp[(15 : Fin 16).val * 8]
    (e .powerOn).valid = false ∧ (e (d .powerOn ⟨true, .waste⟩)).action = .waste
      ∧ (e (d .powerOn ⟨true, .stack⟩)).action = .stack
      ∧ (e (d ⟨true, .follow⟩ ⟨true, .follow⟩)).action = .follow
      ∧ (e0 (d ⟨true, .follow⟩ ⟨true, .follow⟩)).action = .follow
      ∧ (e0 (d ⟨true, .stack⟩ ⟨true, .follow⟩)) = ⟨true, .stack⟩
      ∧ (e0 (d ⟨true, .waste⟩ ⟨true, .follow⟩)) = ⟨true, .waste⟩ := by decide +kernel

/-- Three lanes in use need three places: 13 items leave them, 14 do not. -/
theorem witness_CommitDecidesEveryLane :
    let r : Record := rec0 7 1030000
    let crowded (n : Nat) : State :=
      lively.onSched fun q => { q with gate := List.replicate n ⟨7, 0#32, 0#32, 1#32, 1#32⟩ }
    let joins (s : State) (k : Fin 8) : Bool :=
      (s.sched.gate.filter (·.lane == k)).getLast?.any (·.last == r.serial - 1#32)
    let needed (s : State) : Nat :=
      (allLanes.filter fun k => decide (k.val < s.job.job.lanes) && !joins s k).length
    (crowded 13).SerialsApart ∧ r ∈ (crowded 13).track.queue ∧ (crowded 14).sched.gate.length ≤ 16
      ∧ needed (crowded 13) ≤ 16 - (crowded 13).sched.gate.length
      ∧ 16 - (crowded 14).sched.gate.length < needed (crowded 14) := by decide +kernel

theorem witness_GateItemsExtendOrJoin :
    fourLanes.sched.gate = [] ++ ⟨2, 3123000#32, 3156000#32, 519#32, 519#32⟩ :: []
      ∧ (519#32 : Word) = 520#32 - 1#32
      ∧ ∀ (before after : List GateItem) (g : GateItem), fourLanes.sched.gate = before ++ g :: after →
          g.lane = 1 → (∀ x ∈ after, x.lane ≠ 1) → g.last ≠ 520#32 - 1#32 := by
  refine ⟨rfl, by decide, ?_⟩
  intro before after g h hg
  have hm : g ∈ fourLanes.sched.gate := by rw [h]; simp
  have : fourLanes.sched.gate = [⟨2, 3123000#32, 3156000#32, 519#32, 519#32⟩] := rfl
  rw [this, List.mem_singleton] at hm
  rw [hm] at hg
  exact absurd hg (by decide)

theorem witness_LateInformationMarksStacks :
    let e : LaneEntry := { LaneEntry.fresh with
      outcome := some .stack, stackRef := some 13, override := some .forceAccept }
    let r : Record := (rec0 6 1000000).onLane 0 fun _ => e
    LateKind.spliceZone ≠ .lateGate ∧ r.lanes[0].outcome = some .stack ∧ r.lanes[0].stackRef = some 13
      ∧ r.lanes[0].override = some .forceAccept ∧ LateKind.spliceZone ≠ .defectZone
      ∧ (rec0 6 1000000).lanes[0].outcome ≠ some .stack
      ∧ (lively.lane 0).list = [stack0 12 4 4 0 4 .changing true] ++ stack0 13 4 2 2 4 .filled false :: []
      ∧ (stack0 13 4 2 2 4 .filled false).state ≠ .changing
      ∧ ∀ y ∈ (lively.lane 1).list, y.state = .changing := by decide +kernel

/-- Lane 0 of the lively state has a stack in change, two labels held and a hold limit of 4: its label is counted;
with a limit of 2 it overruns. -/
theorem witness_ArrivalCountsEveryStackLabel :
    let l := lively.lane 0
    (∃ r rest, lively.track.queue = r :: rest ∧ r.lanes[0].outcome = some .stack
        ∧ r.lanes[0].stackRef = some 13 ∧ rest ≠ [] ∧ r.lanes[1].outcome ≠ some .stack)
      ∧ (0 : Fin 8).val < lively.job.job.lanes ∧ lively.job.job.lanes ≤ (3 : Fin 8).val
      ∧ (inState .ending (withQueue [rec0 7 1030000] lively)).job.state = .ending
      ∧ (l.list.map (·.number)).Nodup ∧ l.state = .ready ∧ 13 ∈ l.list.map (·.number)
      ∧ 14 ∉ l.list.map (·.number) ∧ l.list.head?.map (·.state) = some .changing
      ∧ (l.list.map (·.held)).sum + 1 ≤ (lively.cfg 0).holdLimit ∧ 2 < (l.list.map (·.held)).sum + 1
      ∧ l.list = [stack0 12 4 4 0 4 .changing true] ++ stack0 13 4 2 2 4 .filled false :: []
      ∧ ((lively.onLane 0 fun l => { l with state := .fault, cause := .node }).lane 0).state = .fault := by
  refine ⟨⟨_, _, rfl, rfl, rfl, by decide, by decide⟩, ?_⟩
  decide +kernel

/-- Late gates of serials 3 to 4 and 6 to 7, at the arrival of 6, of 7 and of 5. -/
theorem witness_ArrivalCountsEveryStackLabel_lateGates :
    let gone : SerialRange := ⟨3#32, 4#32⟩
    let x : SerialRange := ⟨6#32, 7#32⟩
    let s := lively.onDisp fun d => { d with lateGates := d.lateGates.set 0 [gone, x] }
    s.disp.lateGates[(0 : Fin 8).val] = [gone] ++ [x] ∧ behind gone.last 5#32 = true
      ∧ behind x.last 7#32 = false ∧ (6#32 - x.first).toNat ≤ (x.last - x.first).toNat
      ∧ (7#32 : Word) = x.last ∧ (x.last - x.first).toNat < (5#32 - x.first).toNat
      ∧ lively.disp.lateGates[(0 : Fin 8).val] = [] ++ [] := by decide +kernel

theorem witness_LabelsAreConserved :
    lively.QueueShape ∧ lively.CountersHaveRoom 2 ∧ (2 : Fin 8).val < lively.job.job.lanes
      ∧ clearsLaneCounters .webbreak = false ∧ exec .webbreak lively = .next (after .webbreak lively) := by
  refine ⟨?_, by decide +kernel, by decide, by decide, webbreak_answers lively⟩
  refine ⟨?_, ?_, ?_, ?_, ?_, ?_, ?_⟩ <;> decide +kernel

theorem witness_LabelsJoinStacks :
    let l (xs : List StackRec) : StackLane := { StackLane.powerOn with list := xs }
    let older := [stack0 30 100 9 0 100 .filled false, stack0 31 100 0 0 100 .filled false,
                  stack0 32 100 0 0 100 .filled false]
    (l []).Sound ∧ (l []).list.length < 4
      ∧ (l (older ++ [stack0 33 100 0 0 100 .filled false])).Sound
      ∧ (l (older ++ [stack0 33 100 0 0 100 .filled false])).list.length = 4
      ∧ (l (older ++ [stack0 33 40 0 0 100 .assigning false])).Sound
      ∧ (l (older ++ [stack0 33 99 0 0 100 .assigning false])).Sound
      ∧ (stack0 33 99 0 0 100 .assigning false).assigned + 1 = (stack0 33 99 0 0 100 .assigning false).target
      ∧ (stack0 33 40 0 0 100 .assigning false).design ≠ 2 ∧ 0 < ({ LaneCfg.powerOn with changeGap := 1 }).changeGap
      ∧ LaneCfg.powerOn.changeGap = 0 ∧ (l [stack0 33 40 0 0 100 .assigning false]).Sound := by
  refine ⟨?_, ?_, ?_, ?_, ?_, ?_, ?_, ?_, ?_, ?_, ?_⟩ <;> decide +kernel

theorem witness_ChangesEndOrExpire :
    let due (c : Nat) := inChange.onLane 0 fun l => { l with timer := some ⟨c, 4000⟩ }
    let reached (s : State) : Bool := (s.lane 0).timer.any fun x => decide (x.timeout ≤ x.count)
    reached (due 3999) = false ∧ reached (due 4000) = true ∧ inChange.addressed = true
      ∧ 8 ≤ (8#8).toNat ∧ (0#8).toNat = (0 : Fin 8).val
      ∧ (inChange.lane 0).list = stack0 12 4 4 0 4 .changing true :: [stack0 13 4 2 2 4 .filled false]
      ∧ (stack0 12 4 4 0 4 .changing true).number = (12#16).toNat
      ∧ (∀ (r : StackRec) (rest : List StackRec), (inChange.lane 7).list = r :: rest →
          ¬(r.state = .changing ∧ r.number = (12#16).toNat)) := by
  refine ⟨by decide +kernel, by decide +kernel, by decide +kernel, by decide, by decide, rfl, rfl, ?_⟩
  intro r rest h
  exact absurd (show (inChange.lane 7).list = [] from rfl) (by rw [h]; simp)

theorem witness_NodeFaultsAReadyLane :
    inChange.addressed = true ∧ 8 ≤ (8#8).toNat ∧ (0#8).toNat = (0 : Fin 8).val
      ∧ (inChange.lane 0).state = .ready
      ∧ ((inChange.onLane 7 fun l => { l with state := .fault, cause := .node }).lane 7).state = .fault
      ∧ (7#8).toNat = (7 : Fin 8).val := by decide +kernel

theorem witness_LanesEnabledAndClosed :
    let s := withStacks 7 [stack0 12 3 3 0 4 .assigning false] inChange
    s.addressed = true ∧ 8 ≤ (8#8).toNat ∧ (7#8).toNat = (7 : Fin 8).val ∧ (s.lane 7).state = .ready
      ∧ ((s.onLane 7 fun l => { l with state := .fault, cause := .node }).lane 7).state = .fault
      ∧ (∀ x ∈ (s.lane 0).list, x.state ≠ .assigning)
      ∧ ∃ x ∈ (s.lane 7).list, x.state = .assigning := by decide +kernel

/-- Table 8-3: K410 is late beyond 2,006,000. -/
theorem witness_OfferSendsTheKnifeHead :
    let s (p : Nat) : State := (running p).onSched fun q => { q with knife := [⟨410#32, 2014000#32⟩] }
    (s 2006000).addressed = true ∧ (s 2006000).sched.knife = ⟨410#32, 2014000#32⟩ :: []
      ∧ beyond (s 2006000).track.pos (shift 2014000#32 (-((s 0).job.station.knifeLead : Int))) = false
      ∧ beyond (s 2006001).track.pos (shift 2014000#32 (-((s 0).job.station.knifeLead : Int))) = true := by
  decide +kernel

/-- Table 8-3: G1 is late beyond 1,949,000; a STACK item of a filled stack; a NOTICE item; and empty queues. -/
theorem witness_OfferSendsTheChosenHead :
    let g : GateItem := ⟨1, 1954000#32, 1990000#32, 405#32, 406#32⟩
    let s (p : Nat) : State := (running p).onSched fun q => { q with gate := [g] }
    let k : State := (withStacks 0 [stack0 12 4 4 0 4 .filled true] (running 5)).onSched fun q =>
      { q with stack := [⟨0, 12⟩] }
    let n : State := (running 5).notify .regState none 2#32
    (running 5).addressed = true ∧ (running 5).sched.knife = [] ∧ (running 5).sched.choose.1 = none
      ∧ (s 1949000).sched.choose.1 = some .gate ∧ (s 1949000).sched.gate = g :: []
      ∧ beyond (s 1949000).track.pos (shift g.openPos (-(station0.gateLead : Int))) = false
      ∧ beyond (s 1949001).track.pos (shift g.openPos (-(station0.gateLead : Int))) = true
      ∧ k.sched.choose.1 = some .stack ∧ k.sched.stack = ⟨0, 12⟩ :: []
      ∧ (k.lane 0).list = [] ++ stack0 12 4 4 0 4 .filled true :: []
      ∧ n.sched.choose.1 = some .notice ∧ n.sched.notices = ⟨.regState, none, 1, 2#32⟩ :: [] := by
  decide +kernel

theorem witness_LadderChoosesAWaitingQueue :
    let q : Scheduler := { Scheduler.powerOn with
      stack := [⟨0, 12⟩], notices := [⟨.regState, none, 1, 2#32⟩], stackCredit := 0, noticeCredit := 0 }
    let c : Scheduler := { q with noticeCredit := 1 }
    let g : Scheduler := { q with gate := [⟨1, 0#32, 0#32, 1#32, 1#32⟩] }
    (∀ e ∈ q.table.toList, 1 ≤ e.weight) ∧ (∀ e ∈ g.table.toList, 1 ≤ e.weight)
      ∧ Scheduler.powerOn.choose.1 = none ∧ g.waiting .gate = true ∧ (g.entry .gate).mode = .strict
      ∧ (∀ y ∈ sources, q.waiting y = true → (q.entry y).mode = .ratio)
      ∧ q.waiting .gate = false ∧ q.waiting .stack = true
      ∧ (∀ y ∈ sources, q.waiting y = true → q.credit y = 0)
      ∧ c.waiting .notice = true ∧ 0 < c.credit .notice ∧ c.credit .stack = 0 := by decide +kernel

theorem witness_NoticesCoalesceJoinOrDrop :
    let n : Notice := ⟨.stackDone, some 3, 255, 8#32⟩
    let q : Scheduler := { Scheduler.powerOn with notices := [n] }
    let full : Scheduler := { q with notices := List.replicate 16 ⟨.lateInfo, some 3, 1, 8#32⟩ }
    q.notices = [] ++ n :: [] ∧ (∀ x ∈ q.notices, ¬(x.kind = .lateCut ∧ x.lane = none))
      ∧ q.notices.length < 16 ∧ (∀ x ∈ full.notices, ¬(x.kind = .lateCut ∧ x.lane = none))
      ∧ 16 ≤ full.notices.length := by decide +kernel

/-- 9.4.1: the knife horizon 58,000 fails check 6 first. -/
theorem witness_ArmChecksInOrder :
    base.addressed = true ∧ base.job.state = .config ∧ base.job.armFailure = none
      ∧ (base.onJob fun j => { j with station := { station0 with knifeHorizon := 58000 } }).job.armFailure
          = some .knifeHorizon
      ∧ (running 5).job.state ≠ .config := by decide +kernel

theorem witness_StartResumeAndClear :
    base.addressed = true ∧ (inState .armed base).job.state = .armed ∧ (inState .hold base).job.state = .hold
      ∧ (inState .hold base).track.queue = [] ∧ base.job.state ≠ .armed ∧ base.job.state ≠ .hold := by
  decide +kernel

theorem witness_EndMarksTheTail :
    (running 5).addressed = true ∧ (running 5).job.state = .run ∧ (running 5).track.queue = []
      ∧ lively.job.state = .run ∧ lively.SerialsApart
      ∧ (∃ b, lively.track.queue = [b] ++ [rec0 7 1030000]) ∧ (rec0 7 1030000).commit = .uncommitted
      ∧ base.job.state ≠ .run := by
  refine ⟨by decide +kernel, rfl, rfl, rfl, by decide +kernel, ⟨_, rfl⟩, rfl, by decide⟩

theorem witness_CapacitiesAndHoldsAreKept :
    lively.CapacitiesHold ∧ lively.sched.NoticesApart ∧ lively.sched.CreditsFit ∧ lively.CauseAgrees
      ∧ lively.HoldIsQuiet ∧ lively.StackingSound ∧ step lively = .next lively := by
  refine ⟨by decide +kernel, by decide +kernel, by decide +kernel, by decide +kernel, by decide +kernel, ?_, rfl⟩
  intro k
  refine ⟨?_, ?_, ?_⟩ <;> revert k <;> decide +kernel

theorem witness_QueueShapeIsKept :
    lively.QueueShape ∧ ∃ t, step { lively with pending := [.endJob] } = .next t := by
  refine ⟨?_, ⟨_, rfl⟩⟩
  refine ⟨?_, ?_, ?_, ?_, ?_, ?_, ?_⟩ <;> decide +kernel

theorem witness_AnchorsKeepRising :
    lively.AnchorsRise ∧ ∃ t, step { lively with pending := [.endJob] } = .next t := by
  refine ⟨?_, ⟨_, rfl⟩⟩
  refine ⟨?_, ?_, ?_, ?_, ?_, ?_⟩ <;> decide +kernel

/-- The target, the applied correction, the integral and the ramp at their bounds. -/
theorem witness_LoopStaysBounded : lively.LoopBounded ∧ step lively = .next lively :=
  ⟨by decide +kernel, rfl⟩

theorem witness_StackingStaysSound : lively.StackingSound := by
  intro k
  refine ⟨?_, ?_, ?_⟩ <;> revert k <;> decide +kernel

/-- One change of each table, of P, of the next serial and of the job state. -/
theorem witness_OnlyTheseCommandsChangeThese :
    let ended := after .endJob (withQueue [] (running 5))
    exec .webbreak lively = .next (after .webbreak lively) ∧ (∀ straps, Instr.webbreak ≠ .powerOnReset straps)
      ∧ (after .webbreak lively).job.state = .hold ∧ lively.job.state = .run ∧ ended.job.state = .armed
      ∧ (after (.writeJob 0#16 1#8 (area job0.bytes)) State.reset).job.job ≠ State.reset.job.job
      ∧ (after (.writeStation 0#16 1#8 (area station0.bytes)) State.reset).job.station ≠ State.reset.job.station
      ∧ (after (.writeLoop 0#16 1#8 (area loop0.bytes)) State.reset).job.loop ≠ State.reset.job.loop
      ∧ (after (.writeSensor 0#16 1#8 (area [1#8])) State.reset).reg.edges ≠ State.reset.reg.edges
      ∧ (after (.writeLane 0#16 1#8 (area (LaneCfg.bytes ⟨true, 1, 1, 0, 0, 1, 0, 0⟩))) State.reset).stk.cfg
          ≠ State.reset.stk.cfg
      ∧ (after (.writeDisp 0#16 4#8 (area [0x81#8])) State.reset).disp.disp ≠ State.reset.disp.disp
      ∧ (after (.writeOverride 0#16 1#8 (area [1#8])) State.reset).disp.overrides ≠ State.reset.disp.overrides
      ∧ (after (.writeSched 0#16 1#8 (area [1#8, 2#8])) State.reset).sched.table ≠ State.reset.sched.table
      ∧ (after (.webpos 1035001#32) lively).track.pos ≠ lively.track.pos
      ∧ (after (.markev 0#8 0#8 1060000#32) (lively.setPos 1060000#32)).track.nextSerial
          ≠ lively.track.nextSerial := by
  intro ended
  refine ⟨webbreak_answers lively, (fun _ h => by cases h), ?_⟩
  decide +kernel

end Sys2Proof.Machine.Tests
end

section
/-! The meaning of WEBPOS by the cases of Table 1-9 (R10 to R14), and the small reverse (R12). -/

namespace Sys2Proof.Machine

theorem State.ifAddressed_of_addressed (f : State → State) (s : State) (ha : s.addressed = true) :
    s.ifAddressed f = f s :=
  if_pos ha

theorem exec_webpos (reported : Word) (s : State) : exec (.webpos reported) s = execWebpos reported s := rfl

/-- A report in RUN or ENDING is judged by its difference from P alone. -/
theorem exec_webpos_of_running (reported : Word) (s : State) (ha : s.addressed = true)
    (hr : s.running = true) :
    exec (.webpos reported) s = .next
      (if diff reported s.track.pos = 0 then s
      else if 65535 < diff reported s.track.pos then (s.setPos reported).enterHold .jump
      else if 0 < diff reported s.track.pos then s.advance reported
      else if -(s.job.station.reverseTolerance : Int) ≤ diff reported s.track.pos then
        s.onTrack fun u => { u with posHeld := satInc u.posHeld }
      else (s.setPos reported).enterHold .reverse) := by
  rw [exec_webpos, execWebpos, State.ifAddressed_of_addressed _ s ha, if_pos hr]

/-- Settles O18: a difference from -1 down to the tolerance is neither the confirmation, the jump nor the advance,
so it falls to the case that counts. -/
theorem smallReverseIsHeld : Obligations.SmallReverseIsHeld := by
  intro reported s ha hr hneg htol
  have not_equal : ¬ diff reported s.track.pos = 0 := by omega
  have not_jump : ¬ 65535 < diff reported s.track.pos := by omega
  have not_advance : ¬ 0 < diff reported s.track.pos := by omega
  rw [exec_webpos_of_running reported s ha hr, if_neg not_equal, if_neg not_jump, if_neg not_advance,
    if_pos htol]
  rfl

end Sys2Proof.Machine
end

section
/-! Listing a zone while the list has room (R72). -/

namespace Sys2Proof.Machine

/-- The recursion of `insertZone` stops at the first zone beyond: the zone stands between the zones that are not
beyond it and the rest. -/
theorem insertZone_eq_takeWhile_append_dropWhile (z : Zone) (zs : List Zone) :
    insertZone z zs = (zs.takeWhile fun y => !beyond y.lo z.lo) ++ z
      :: (zs.dropWhile fun y => !beyond y.lo z.lo) := by
  induction zs with
  | nil => rfl
  | cons y ys ih =>
    cases hb : beyond y.lo z.lo with
    | true => simp [insertZone, hb]
    | false => simp [insertZone, hb, ih]

/-- With room in the list a zone is inserted, not merged. -/
theorem State.listZone_of_room (z : Zone) (s : State)
    (room : s.track.zones.length < Config.zoneCapacity) :
    s.listZone z = s.onTrack fun u => { u with zones := insertZone z u.zones } :=
  if_pos room

/-- Settles O27: with room the zone is inserted, and insertion places it before the first zone beyond. -/
theorem zonesInsertedInOrder : Obligations.ZonesInsertedInOrder := by
  intro z s room
  rw [State.listZone_of_room z s room, ← insertZone_eq_takeWhile_append_dropWhile]
  rfl

end Sys2Proof.Machine
end

section
/-! CUTMEAS by the record it is associated with (R54, R93), and the unused measurement (R94). -/

namespace Sys2Proof.Machine

theorem Record.eligible_iff (r : Record) : r.eligible = true ↔ r.cut = .sent ∧ r.check = .unchecked := by
  simp [Record.eligible]

/-- R54: the oldest record that is SENT and unchecked is the one found. -/
theorem find?_eligible_of_oldest (older younger : List Record) (r : Record)
    (ho : ∀ x ∈ older, ¬(x.cut = .sent ∧ x.check = .unchecked)) (hr : r.cut = .sent ∧ r.check = .unchecked) :
    (older ++ r :: younger).find? Record.eligible = some r := by
  have passed : ∀ x ∈ older, ¬ x.eligible = true := fun x hx => mt x.eligible_iff.1 (ho x hx)
  rw [List.find?_append, List.find?_eq_none.2 passed, Option.none_or,
    List.find?_cons_of_pos (r.eligible_iff.2 hr)]

/-- A measurement with a record to go with is used, or sets that record IGNORED. -/
theorem exec_cutmeas_of_associated (valid : Byte) (error : Half) (s : State) (r : Record)
    (ha : s.addressed = true) (hf : s.track.queue.find? Record.eligible = some r) :
    exec (.cutmeas valid error) s
      = .next (if flagSet valid = true ∧ r.origin ≠ .free then s.useMeasurement r error
          else s.onRecord r.serial fun x => { x with check := .ignored }) := by
  change execCutmeas valid error s = _
  rw [execCutmeas, s.ifAddressed_addressed _ ha, hf]

/-- Where no serial stands twice, a change by serial replaces that record in the queue and changes nothing else. -/
theorem State.onRecord_of_serialsApart (s : State) (f : Record → Record) (older younger : List Record)
    (r : Record) (hq : s.track.queue = older ++ r :: younger) (apart : s.SerialsApart) :
    s.onRecord r.serial f
      = { s with track := { s.track with queue := older ++ f r :: younger } } := by
  obtain ⟨others_older, others_younger⟩ := apart.others s older younger r hq
  rw [← s.onRecord_split r.serial f older younger r hq rfl others_older others_younger]
  rfl

/-- Settles O34: the record found is r, a clear flag and the origin FREE both fail the test of use, and r is the only
record of its serial. -/
theorem unusedMeasurementIsIgnored : Obligations.UnusedMeasurementIsIgnored := by
  intro valid error s older younger r ha hq apart ho hcut hcheck unused
  have found : s.track.queue.find? Record.eligible = some r :=
    hq ▸ find?_eligible_of_oldest older younger r ho ⟨hcut, hcheck⟩
  have not_used : ¬(flagSet valid = true ∧ r.origin ≠ .free) := by
    rintro ⟨hflag, horigin⟩
    rcases unused with rfl | hfree
    · exact absurd hflag (by decide)
    · exact horigin hfree
  rw [exec_cutmeas_of_associated valid error s r ha found, if_neg not_used,
    s.onRecord_of_serialsApart _ older younger r hq apart]

end Sys2Proof.Machine
end

section
/-! OVERRIDE entries: the match, the entry of lowest index, and the override result at the commit (R104, R105). -/

namespace Sys2Proof.Machine

/-! ## The serial range of an entry -/

theorem serialInRange_single (serial first : Word) : serialInRange serial first first = true ↔ serial = first := by
  rw [serialInRange, decide_eq_true_iff]
  bv_omega

/-- A range whose first serial follows its last one wraps over every serial. -/
theorem serialInRange_full (serial last : Word) : serialInRange serial (last + 1#32) last = true := by
  have span : (last - (last + 1#32)).toNat = 4294967295 := by bv_omega
  rw [serialInRange, decide_eq_true_iff, span]
  exact Nat.le_of_lt_succ (serial - (last + 1#32)).isLt

theorem OverrideEntry.covers_iff (e : OverrideEntry) (serial : Word) (k : Fin 8) :
    e.covers serial k = true ↔
      e.valid = true ∧ serialInRange serial e.first e.last = true ∧ e.lanes.getLsbD k.val = true := by
  simp [OverrideEntry.covers, inLaneSet, and_assoc]

/-- An entry that is valid for a lane matches there by its serial range alone. -/
theorem OverrideEntry.covers_iff_serialInRange (e : OverrideEntry) (serial : Word) (k : Fin 8)
    (hvalid : e.valid = true) (hlane : e.lanes.getLsbD k.val = true) :
    e.covers serial k = true ↔ serialInRange serial e.first e.last = true := by
  simp [e.covers_iff, hvalid, hlane]

/-! ## The entry of lowest index -/

theorem Disposition.overrideFor_eq_some_iff (d : Disposition) (serial : Word) (k : Fin 8) (a : OverrideAction) :
    d.overrideFor serial k = some a ↔
      ∃ i : Fin 32, d.overrides[i.val].covers serial k = true ∧ d.overrides[i.val].action = a
        ∧ ∀ j : Fin 32, j < i → d.overrides[j.val].covers serial k = false := by
  rw [Disposition.overrideFor, Vector.find?_toList, Option.map_eq_some_iff]
  constructor
  · rintro ⟨e, found, rfl⟩
    obtain ⟨hcovers, i, hi, rfl, before⟩ := Vector.find?_eq_some_iff_getElem.1 found
    exact ⟨⟨i, hi⟩, hcovers, rfl, fun j hj => by simpa using before j.val hj⟩
  · rintro ⟨i, hcovers, haction, before⟩
    refine ⟨d.overrides[i.val], Vector.find?_eq_some_iff_getElem.2 ⟨hcovers, i.val, i.isLt, rfl, ?_⟩, haction⟩
    intro j hj
    simpa using before ⟨j, hj.trans i.isLt⟩ hj

theorem Disposition.overrideFor_eq_none_iff (d : Disposition) (serial : Word) (k : Fin 8) :
    d.overrideFor serial k = none ↔ ∀ i : Fin 32, d.overrides[i.val].covers serial k = false := by
  rw [Disposition.overrideFor, Vector.find?_toList, Option.map_eq_none_iff, Vector.find?_eq_none]
  constructor
  · exact fun none_covers i => Bool.eq_false_iff.2 (none_covers _ (Vector.getElem_mem i.isLt))
  · intro none_covers e he
    obtain ⟨i, hi, rfl⟩ := Vector.getElem_of_mem he
    exact Bool.eq_false_iff.1 (none_covers ⟨i, hi⟩)

/-! ## What a commit of one lane writes into the queue -/

@[simp] theorem State.requestChange_track (s : State) (k : Fin 8) : (s.requestChange k).track = s.track := by
  rw [State.requestChange_eq]

/-- The decision changes the lane and what it asks for, never the queue (R108). -/
@[simp] theorem State.decideLane_track (s : State) (r : Record) (k : Fin 8) :
    (s.decideLane r k).2.track = s.track := by
  unfold State.decideLane
  split
  · rfl
  · split
    · exact s.onLane_track k _
    · split <;> rw [State.requestChange_track, State.onLane_track]

@[simp] theorem State.gateLabel_track (s : State) (serial cutLine labelEnd : Word) (k : Fin 8) :
    (s.gateLabel serial cutLine labelEnd k).track = s.track := rfl

/-- R43, R105: what a commit records of lane k in a record: the matched override and the decision. -/
def Record.decided (matched : Option OverrideAction) (d : Decision) (k : Fin 8) (x : Record) : Record :=
  x.onLane k fun e => { e with override := matched, outcome := some d.outcome, stackRef := d.ref }

@[simp] theorem Record.decided_serial (matched : Option OverrideAction) (d : Decision) (k : Fin 8) (x : Record) :
    (x.decided matched d k).serial = x.serial := rfl

@[simp] theorem Record.decided_override (matched : Option OverrideAction) (d : Decision) (k : Fin 8) (x : Record) :
    (x.decided matched d k).lanes[k.val].override = matched := by
  simp [Record.decided, Record.onLane]

/-- A charge and a gate item leave the queue alone, so the commit of a lane changes it by the decided record only. -/
theorem State.commitLane_track (s : State) (r : Record) (cutLine labelEnd : Word) (k : Fin 8) :
    (s.commitLane r cutLine labelEnd k).track
      = (s.onRecord r.serial
          (Record.decided (s.disp.overrideFor r.serial k) (s.decideLane r k).1 k)).track := by
  have recorded (f : Record → Record) :
      ((s.decideLane r k).2.onRecord r.serial f).track = (s.onRecord r.serial f).track := by
    simp [State.onRecord]
  rw [← recorded]
  unfold State.commitLane
  cases hc : (s.decideLane r k).1.outcome.counter with
  | none => simp only [hc]; rfl
  | some which => simp only [hc, State.gateLabel_track, State.charge_track]; rfl

theorem State.mem_onRecord_queue (s : State) (f : Record → Record) (r : Record) (hr : r ∈ s.track.queue) :
    f r ∈ (s.onRecord r.serial f).track.queue :=
  List.mem_map.2 ⟨r, hr, if_pos rfl⟩

/-- Settles O35: a match is the conjunction of its three tests, the search over the table stops at its first match,
and the commit writes what that search found before the decision. -/
theorem lowestOverrideMatches : Obligations.LowestOverrideMatches := by
  refine ⟨?_, ?_, Disposition.overrideFor_eq_some_iff, Disposition.overrideFor_eq_none_iff, ?_⟩
  · intro e serial k
    rw [e.covers_iff, serialInRange, decide_eq_true_iff]
  · intro e serial k hvalid hlane
    rw [e.covers_iff_serialInRange serial k hvalid hlane]
    exact ⟨fun single => single ▸ serialInRange_single serial e.last,
      fun wraps => wraps ▸ serialInRange_full serial e.last⟩
  · intro s r cutLine labelEnd k _ hr
    rw [s.commitLane_track r cutLine labelEnd k]
    exact ⟨_, s.mem_onRecord_queue _ r hr, Record.decided_serial .., Record.decided_override ..⟩

end Sys2Proof.Machine
end

section
/-! Step 8 of the decision: the DISP entry of a design and lane, with FOLLOW followed once (R107). -/

namespace Sys2Proof.Machine

section

variable {d : Disposition} {design i : Nat} {k : Fin 8}

theorem Disposition.actionAt_of_valid {a : DispAction} (hi : i < 128) (hv : d.disp[i].valid = true)
    (ha : d.disp[i].action = a) : d.actionAt i = some a := by
  simp [Disposition.actionAt, hi, hv, ha]

theorem Disposition.actionAt_of_invalid (hi : i < 128) (hv : d.disp[i].valid = false) :
    d.actionAt i = none := by
  simp [Disposition.actionAt, hi, hv]

/-- An entry that is not a valid FOLLOW answers for itself. -/
theorem Disposition.resolve_of_own {answer : Option DispAction}
    (own : d.actionAt (design * 8 + k.val) = answer) (not_follow : answer ≠ some .follow) :
    d.resolve design k = answer := by
  unfold Disposition.resolve
  rw [own]
  split
  · contradiction
  · rfl

/-- A valid FOLLOW takes the answer of the row's lane 0 entry, which is none where that is FOLLOW too. -/
theorem Disposition.resolve_of_follow {answer : Option DispAction}
    (own : d.actionAt (design * 8 + k.val) = some .follow) (lane0 : d.actionAt (design * 8) = answer) :
    d.resolve design k = if answer = some .follow then none else answer := by
  unfold Disposition.resolve
  rw [own, lane0]
  dsimp only
  split
  next => rfl
  next not_follow => exact (if_neg not_follow).symm

theorem Disposition.tableStep_of_stack (h : d.resolve design k = some .stack) :
    d.tableStep design k = none := by
  rw [Disposition.tableStep, h]

theorem Disposition.tableStep_of_waste (h : d.resolve design k = some .waste) :
    d.tableStep design k = some (.waste, .table) := by
  rw [Disposition.tableStep, h]

theorem Disposition.tableStep_of_unresolved (h : d.resolve design k = none) :
    d.tableStep design k = some (.waste, .noDisp) := by
  rw [Disposition.tableStep, h]

end

open Disposition in
/-- Settles O37: what step 8 answers is what the entry resolves to, by itself or, for a valid FOLLOW, by the lane 0
entry of its row. -/
theorem dispFollowsLaneZeroOnce : Obligations.DispFollowsLaneZeroOnce := by
  intro d design lane e e0
  have hi : design.val * 8 + lane.val < 128 := by omega
  have hi0 : design.val * 8 < 128 := by omega
  refine ⟨fun hv => ?invalid, fun hv ha => ?waste, fun hv ha => ?stack, fun hv ha => ?follow⟩
  case invalid => exact tableStep_of_unresolved (resolve_of_own (actionAt_of_invalid hi hv) (by decide))
  case waste => exact tableStep_of_waste (resolve_of_own (actionAt_of_valid hi hv ha) (by decide))
  case stack => exact tableStep_of_stack (resolve_of_own (actionAt_of_valid hi hv ha) (by decide))
  case follow =>
    have own : d.actionAt (design.val * 8 + lane.val) = some .follow := actionAt_of_valid hi hv ha
    refine ⟨fun unusable => tableStep_of_unresolved ?_, fun hv0 ha0 => ?_, fun hv0 ha0 => ?_⟩
    · cases hv0 : e0.valid with
      | false => exact resolve_of_follow own (actionAt_of_invalid hi0 hv0)
      | true =>
        have ha0 : e0.action = .follow := unusable.resolve_left (by simp [hv0])
        exact resolve_of_follow own (actionAt_of_valid hi0 hv0 ha0)
    · exact tableStep_of_waste (resolve_of_follow own (actionAt_of_valid hi0 hv0 ha0))
    · exact tableStep_of_stack (resolve_of_follow own (actionAt_of_valid hi0 hv0 ha0))

end Sys2Proof.Machine
end

section
/-! A notice coalesces with the waiting item of its kind and lane, joins the queue, or is dropped (R151). -/

namespace Sys2Proof.Machine

/-- The first item of the kind and lane takes the count; the items before and after it stay. -/
theorem coalesce_split {kind : NoticeKind} {lane : Option (Fin 8)} {before : List Notice} (after : List Notice)
    {n : Notice} (hn : n.kind = kind ∧ n.lane = lane)
    (first : ∀ x ∈ before, ¬(x.kind = kind ∧ x.lane = lane)) :
    coalesce kind lane (before ++ n :: after)
      = some (before ++ { n with count := if n.count < 255 then n.count + 1 else n.count } :: after) := by
  induction before with
  | nil => exact if_pos hn
  | cons x before ih =>
    obtain ⟨hx, hbefore⟩ := List.forall_mem_cons.1 first
    rw [List.cons_append, coalesce, if_neg hx, ih hbefore]
    rfl

section

variable {kind : NoticeKind} {lane : Option (Fin 8)} {q : Scheduler} (value : Word)

theorem Scheduler.notify_of_coalesce {ns : List Notice} (h : coalesce kind lane q.notices = some ns) :
    q.notify kind lane value = { q with notices := ns } := by
  rw [Scheduler.notify, h]

theorem Scheduler.notify_of_room (h : coalesce kind lane q.notices = none) (room : q.notices.length < 16) :
    q.notify kind lane value
      = { q with notices := q.notices ++ [{ kind, lane, count := 1, value }] } := by
  rw [Scheduler.notify, h]
  exact if_pos room

theorem Scheduler.notify_of_full (h : coalesce kind lane q.notices = none) (full : 16 ≤ q.notices.length) :
    q.notify kind lane value = { q with noticesDropped := satInc q.noticesDropped } := by
  rw [Scheduler.notify, h]
  exact if_neg (Nat.not_lt.2 full)

end

/-- Settles O50: the search for an item to coalesce with stops at the first of the kind and lane; where it finds none
(`coalesce_eq_none`), the room in the queue decides. -/
theorem noticesCoalesceJoinOrDrop : Obligations.NoticesCoalesceJoinOrDrop := by
  intro kind lane value q
  refine ⟨?coalesces, fun none_waits => ?joins_or_drops⟩
  case coalesces =>
    intro before after n hq hkind hlane first
    exact Scheduler.notify_of_coalesce value (hq ▸ coalesce_split after ⟨hkind, hlane⟩ first)
  case joins_or_drops =>
    have no_item : coalesce kind lane q.notices = none := (coalesce_eq_none kind lane q.notices).2 none_waits
    exact ⟨Scheduler.notify_of_room value no_item, Scheduler.notify_of_full value no_item⟩

end Sys2Proof.Machine
end

section
/-! The step, the two resets, and the part that its straps leave unaddressed (R171, R178). -/

namespace Sys2Proof.Machine

/-- Settles O1: both cases are the two branches of `step`. -/
theorem frontCommandRuns : Obligations.FrontCommandRuns := by
  refine ⟨fun c rest s waits => ?_, fun s idle => ?_⟩
  · rw [step, waits]
  · rw [step, idle]

/-- The range of R171 as the model tests it. -/
theorem addressInUse_iff (node : BitVec 6) : addressInUse node = true ↔ 1 ≤ node.toNat ∧ node.toNat ≤ 62 := by
  have below := node.isLt
  simp only [addressInUse, Bool.and_eq_true, bne_iff_ne, ne_eq, BitVec.toNat_eq, BitVec.toNat_ofNat]
  omega

theorem State.addressed_iff (s : State) :
    s.addressed = true ↔ 1 ≤ s.link.node.toNat ∧ s.link.node.toNat ≤ 62 :=
  addressInUse_iff s.link.node

/-- Settles O3: power-on replaces the whole state but for the commands that wait, by the values of `State.powerOn`;
the timer's guard is the range of an address. -/
theorem powerOnResetValues : Obligations.PowerOnResetValues := by
  intro straps s
  have timer : (LinkPort.powerOn straps).timer
      = if 1 ≤ straps.toNat ∧ straps.toNat ≤ 62 then some 10 else none := by
    simp only [LinkPort.powerOn, addressInUse_iff]
  refine ⟨_, rfl, ⟨rfl, rfl, rfl, timer⟩, rfl, ?_, rfl, rfl, rfl, rfl, rfl, rfl⟩
  simp [State.powerOn, Registration.powerOn]

/-- RESET at an addressed part is the answer OK, then the soft reset (R178). -/
theorem exec_softReset (s : State) (ha : s.addressed = true) :
    exec .softReset s = .next (s.reply .ok).soften := by
  change execSoftReset s = _
  rw [execSoftReset, s.ifAddressed_addressed _ ha]

/-- Settles O4: the soft reset of the answered state, field by field. -/
theorem softResetKeepsTables : Obligations.SoftResetKeepsTables := by
  intro s ha
  have timer : (s.reply .ok).soften.link.timer = some s.job.station.ringTimeout := if_pos ha
  refine ⟨_, exec_softReset s ha, ⟨rfl, timer, rfl, rfl, rfl, rfl⟩, rfl, ?_, rfl, rfl, rfl, ?_, rfl, rfl⟩
  · exact ⟨rfl, rfl, rfl, rfl, rfl, rfl, rfl, rfl, rfl, rfl, rfl, rfl, rfl, rfl⟩
  · exact ⟨rfl, rfl, rfl, rfl, rfl, rfl, rfl, rfl, rfl⟩

/-! ## The unaddressed part -/

theorem State.receive_unaddressed (s : State) (bytes : List Byte) (hu : s.addressed = false) :
    s.receive bytes = s.forward bytes := by
  simp [State.receive, hu]

theorem State.expireIfDue_of_stopped (s : State) (k : Fin 8) (stopped : (s.lane k).timer = none) :
    s.expireIfDue k = s := by
  simp [State.expireIfDue, StackLane.timerDue, stopped]

/-- Every command but the resets by pin, the frames and the two timers asks first whether the part is addressed. -/
theorem exec_unaddressed (s : State) (hu : s.addressed = false) (linkStopped : s.link.timer = none)
    (stopped : ∀ k : Fin 8, (s.lane k).timer = none) (c : Instr) (not_reset : ∀ straps, c ≠ .powerOnReset straps)
    (not_frame : ∀ b, c ≠ .validFrame b ∧ c ≠ .badFrame b) : exec c s = .next s := by
  have guarded (f : State → State) : (.next (s.ifAddressed f) : Host.Outcome State Fault Refusal) = .next s :=
    congrArg _ (s.ifAddressed_unaddressed f hu)
  cases c
  case powerOnReset straps => exact absurd rfl (not_reset straps)
  case validFrame b => exact absurd rfl (not_frame b).1
  case badFrame b => exact absurd rfl (not_frame b).2
  case ownEmptySlotOffer slot => exact if_neg (by simp [hu])
  case linkLossTimerExpiry =>
    change execLinkLossTimerExpiry s = _
    rw [execLinkLossTimerExpiry, linkStopped]
  case changeTimerExpiry k => exact congrArg _ (s.expireIfDue_of_stopped k (stopped k))
  all_goals exact guarded _

/-- Settles O6: frames are forwarded, and every other command meets the test of the address or a stopped timer. -/
theorem unaddressedPartOnlyForwards : Obligations.UnaddressedPartOnlyForwards := by
  refine ⟨State.addressed_iff, fun s hu => ⟨fun b => ?_, exec_unaddressed s hu⟩⟩
  have forwarded := s.receive_unaddressed b hu
  exact ⟨congrArg _ forwarded, congrArg _ forwarded⟩

end Sys2Proof.Machine
end

section
/-! Positions, registration filters, the pitch estimate and its alarms, the hold causes and ARM. -/

namespace Sys2Proof.Machine

/-! ## The tracked position -/

theorem shift_toNat (a : Word) (d : Int) : ((shift a d).toNat : Int) = ((a.toNat : Int) + d) % 4294967296 := by
  simp only [shift, BitVec.toNat_add, BitVec.toNat_ofInt]
  omega

theorem beyond_iff (a b : Word) : beyond a b = true ↔ atOrBeyond a b = true ∧ a ≠ b := by
  simp [beyond]

theorem behind_iff (a b : Word) : behind a b = true ↔ atOrBeyond a b = false := by
  simp [behind]

theorem State.running_iff (s : State) : s.running = true ↔ s.job.state = .run ∨ s.job.state = .ending := by
  simp [State.running]

theorem diff_self (p : Word) : diff p p = 0 := by
  simp [diff]

/-- Settles O17: outside RUN and ENDING a report only sets P; in them each case of `exec_webpos_of_running` is chosen
by the sign and the size of the difference. -/
theorem reportsSetOrFaultThePosition : Obligations.ReportsSetOrFaultThePosition := by
  refine ⟨fun a b d => ⟨decide_eq_true_iff, beyond_iff a b, behind_iff a b, rfl, shift_toNat a d⟩,
    State.running_iff, fun reported s ha => ⟨fun idle => ?_, fun hr => ⟨?_, fun jump => ?_, fun reverse => ?_⟩⟩⟩
  · rw [exec_webpos, execWebpos, s.ifAddressed_addressed _ ha, idle]
    rfl
  · rintro rfl
    rw [exec_webpos_of_running _ s ha hr, diff_self, if_pos rfl]
  · rw [exec_webpos_of_running _ s ha hr, if_neg (by omega), if_pos jump]
    rfl
  · rw [exec_webpos_of_running _ s ha hr, if_neg (by omega), if_neg (by omega), if_neg (by omega),
      if_neg (by omega)]
    rfl

/-! ## Marks that create no record -/

/-- MARKEV at an addressed part: the edge and the job state decide whether it is taken, the channel how (R18). -/
theorem exec_markev (channel edge : Byte) (captured : Word) (s : State) (ha : s.addressed = true) :
    exec (.markev channel edge captured) s = .next
      (if s.edgeSelected channel edge = true ∧ s.job.state = .run then
        if channel = 0#8 then s.takeMark captured else s.takeCycleMark
      else s) := by
  change execMarkev channel edge captured s = _
  rw [execMarkev, s.ifAddressed_addressed _ ha]

/-- R18 step 2: the edge is the one that the SENSOR table selects for the channel. -/
theorem State.edgeSelected_iff (s : State) (channel edge : Byte) :
    s.edgeSelected channel edge = true ↔ ∃ h : channel.toNat < 2, edge = (s.reg.edges[channel.toNat]'h).byte := by
  unfold State.edgeSelected
  by_cases h : channel.toNat < 2
  · simp [h]
  · simp [h]

/-- A registration mark of the selected edge in RUN is judged by the registration state (R26, R28). -/
theorem exec_markev_registration (captured : Word) (s : State) (ha : s.addressed = true) (hr : s.job.state = .run) :
    exec (.markev 0#8 s.reg.edges[0].byte captured) s = .next (s.takeMark captured) := by
  have selected : s.edgeSelected 0#8 s.reg.edges[0].byte = true :=
    (s.edgeSelected_iff _ _).2 ⟨by decide, rfl⟩
  rw [exec_markev _ _ _ s ha, if_pos ⟨selected, hr⟩, if_pos rfl]

theorem exec_markev_cycle (captured : Word) (s : State) (ha : s.addressed = true) (hr : s.job.state = .run) :
    exec (.markev 1#8 s.reg.edges[1].byte captured) s = .next s.takeCycleMark := by
  have selected : s.edgeSelected 1#8 s.reg.edges[1].byte = true :=
    (s.edgeSelected_iff _ _).2 ⟨by decide, rfl⟩
  rw [exec_markev _ _ _ s ha, if_pos ⟨selected, hr⟩, if_neg (by decide)]

/-- R19, R26: a mark in FREE, by its place. -/
theorem State.takeMark_free (s : State) (captured : Word) (hf : s.reg.state = .free) :
    s.takeMark captured = if (!s.farAhead captured && s.inSeekInterval captured) = true then
        s.withRoom fun s => (s.createRecord captured .marked .free |>.setRegState .acquire).clearMissing
      else s.countSeekSkip := by
  simp only [State.takeMark, hf]

/-- R19, R28: a mark in ACQUIRE or LOCKED, by its place. -/
theorem State.takeMark_registered (s : State) (captured : Word) (hf : s.reg.state ≠ .free) :
    s.takeMark captured = if (!s.farAhead captured && s.inWindow captured) = true then
        s.withRoom fun t => (t.createRecord captured .marked s.reg.state).clearMissing
      else s.countStray := by
  unfold State.takeMark
  split
  next h => exact absurd h hf
  next => rfl

/-- R48: with 256 records in the queue what calls for another enters HOLD. -/
theorem State.withRoom_full (s : State) (f : State → State) (full : 256 ≤ s.track.queue.length) :
    s.withRoom f = s.enterHold .queueFull :=
  if_pos full

theorem State.withRoom_room (s : State) (f : State → State) (room : s.track.queue.length < 256) :
    s.withRoom f = f s :=
  if_neg (Nat.not_le.2 room)

/-- The prediction that is due is one that asks for room in the queue (R27, R29, R48). -/
theorem State.predictOne_withRoom (s t : State) (h : s.predictOne = some t) :
    s.job.state = .run ∧ ∃ f, t = s.withRoom f := by
  unfold State.predictOne at h
  split at h
  next run =>
    split at h
    · split at h
      · exact ⟨run, _, (Option.some.inj h).symm⟩
      · cases h
    · split at h
      · exact ⟨run, _, (Option.some.inj h).symm⟩
      · cases h
  next => cases h

theorem satInc_full (c : Word) (full : c.toNat = 4294967295) : satInc c = c :=
  if_pos (BitVec.eq_of_toNat_eq full)

/-- Settles O22: the tests of a mark in their order, each case by the equation of the state that it meets. -/
theorem otherMarksAreFiltered : Obligations.OtherMarksAreFiltered := by
  refine ⟨fun c => ⟨satInc_full c, satInc_below c⟩, fun channel edge captured s ha =>
    ⟨fun unselected => ?_, fun hr hf outside => ?_, fun hr hf outside => ?_, fun hr several => ?_, fun hr single => ?_,
      fun hr hf full near inside => ?_, fun hr hf full near inside => ?_, fun t due full => ?_⟩⟩
  · rw [exec_markev _ _ _ s ha, if_neg]
    rintro ⟨selected, hr⟩
    obtain ⟨h, hedge⟩ := (s.edgeSelected_iff channel edge).1 selected
    rcases unselected with hc | hn | ⟨_, hne⟩
    · omega
    · exact hn hr
    · exact hne hedge
  · rw [exec_markev_registration captured s ha hr, s.takeMark_free captured hf, if_neg]
    · rfl
    · rcases outside with far | out
      · simp [State.farAhead, far]
      · simpa [State.inSeekInterval] using fun _ => out
  · rw [exec_markev_registration captured s ha hr, s.takeMark_registered captured hf, if_neg]
    · rfl
    · rcases outside with far | out
      · simp [State.farAhead, far]
      · simpa [State.inWindow] using fun _ => out
  · rw [exec_markev_cycle captured s ha hr, State.takeCycleMark, if_pos several]
    rfl
  · rw [exec_markev_cycle captured s ha hr, State.takeCycleMark, if_neg (Nat.not_lt.2 single)]
  · rw [exec_markev_registration captured s ha hr, s.takeMark_free captured hf,
      if_pos (by simp only [State.farAhead, State.inSeekInterval, near, inside]; rfl), s.withRoom_full _ full]
  · rw [exec_markev_registration captured s ha hr, s.takeMark_registered captured hf,
      if_pos (by simp only [State.farAhead, State.inWindow, near, inside]; rfl), s.withRoom_full _ full]
  · obtain ⟨_, f, rfl⟩ := s.predictOne_withRoom t due
    exact s.withRoom_full f full

/-! ## The pitch estimate and its alarms -/

/-- Settles O24: the two thresholds exclude each other where the low one is below the high one. -/
theorem alarmsLatchUntilAcknowledged : Obligations.AlarmsLatchUntilAcknowledged := by
  refine fun s => ⟨fun apart => ⟨fun low clear => ?_, fun high clear => ?_, fun low set => ?_, fun high set => ?_,
    fun notLow notHigh => ?_⟩, fun ha => ?_⟩
  · rw [State.compareAlarms, if_pos low, if_neg (by omega), State.alarmLow, clear]
    rfl
  · have notLow : ¬ s.reg.estimate < s.job.job.lowThreshold := by omega
    rw [State.compareAlarms, if_neg notLow, if_pos high, State.alarmHigh, clear]
    rfl
  · rw [State.compareAlarms, if_pos low, if_neg (by omega), State.alarmLow, set]
    rfl
  · have notLow : ¬ s.reg.estimate < s.job.job.lowThreshold := by omega
    rw [State.compareAlarms, if_neg notLow, if_pos high, State.alarmHigh, set]
    rfl
  · rw [State.compareAlarms, if_neg (by omega), if_neg (by omega)]
  · change execAckAlarms s = _
    rw [execAckAlarms, s.ifAddressed_addressed _ ha]
    rfl

theorem clamp_eq_max_min (v lo hi : Int) (h : lo ≤ hi) : clamp v lo hi = max lo (min v hi) := by
  unfold clamp
  split
  · omega
  · split <;> omega

/-- The state with a sample in the ring, before anything is computed of it (R31). -/
def State.withSample (sample : Int) (s : State) : State :=
  s.onReg fun r => { r with samples := (sample :: r.samples).take 32 }

/-- R31: with too few samples in the ring the sample is placed and nothing else happens. -/
theorem State.placeSample_few (s : State) (sample : Int)
    (few : ((sample :: s.reg.samples).take 32).length < 2 ^ s.job.job.depth) :
    s.placeSample sample = s.withSample sample :=
  if_neg (Nat.not_le.2 few)

/-- R32, R34: with 2^n samples in the ring the estimate is computed and compared. -/
theorem State.placeSample_enough (s : State) (sample : Int)
    (enough : 2 ^ s.job.job.depth ≤ ((sample :: s.reg.samples).take 32).length) :
    s.placeSample sample = ((s.withSample sample).onReg fun r =>
      { r with estimate := clampedEstimate s.job.job r.samples }).compareAlarms :=
  if_pos enough

theorem State.pitchEstimate_few (s : State) (few : s.reg.samples.length < 2 ^ s.job.job.depth) :
    s.pitchEstimate = s.job.job.pitch :=
  if_pos few

theorem State.pitchEstimate_enough (s : State) (enough : 2 ^ s.job.job.depth ≤ s.reg.samples.length) :
    s.pitchEstimate = s.reg.estimate :=
  if_neg (Nat.not_lt.2 enough)

/-- What a sample leaves where it completes 2^n: the ring with it, and the estimate of that ring in force. -/
theorem State.placeSample_enough_reg (s : State) (sample : Int)
    (enough : 2 ^ s.job.job.depth ≤ ((sample :: s.reg.samples).take 32).length) :
    (s.placeSample sample).reg.samples = (sample :: s.reg.samples).take 32
      ∧ (s.placeSample sample).reg.estimate
          = clampedEstimate s.job.job ((sample :: s.reg.samples).take 32)
      ∧ (s.placeSample sample).pitchEstimate = (s.placeSample sample).reg.estimate := by
  rw [s.placeSample_enough sample enough]
  obtain ⟨samples, estimate, -, -, -, -, -, job, -⟩ := State.compareAlarms_frame
    ((s.withSample sample).onReg fun r => { r with estimate := clampedEstimate s.job.job r.samples })
  refine ⟨samples, estimate, State.pitchEstimate_enough _ ?_⟩
  rw [job, samples]
  exact enough

/-- Settles O23: the ring holds 2^n samples or not; with depth 0 one sample is enough. -/
theorem sampleSetsTheEstimate : Obligations.SampleSetsTheEstimate := by
  refine ⟨clamp_eq_max_min, fun s => rfl, fun sample s => ⟨?_, fun few => ?_, fun enough => ?_, fun shallow => ?_,
    fun m deep enough => ?_⟩⟩
  · rcases Nat.lt_or_ge ((sample :: s.reg.samples).take 32).length (2 ^ s.job.job.depth) with few | enough
    · rw [s.placeSample_few sample few]
      rfl
    · exact (s.placeSample_enough_reg sample enough).1
  · rw [s.placeSample_few sample few]
    exact ⟨rfl, State.pitchEstimate_few _ few⟩
  · obtain ⟨-, estimate, inForce⟩ := s.placeSample_enough_reg sample enough
    refine ⟨?_, inForce⟩
    dsimp only
    rw [estimate, s.placeSample_enough sample enough]
    rfl
  · have enough : 2 ^ s.job.job.depth ≤ ((sample :: s.reg.samples).take 32).length := by
      simp [shallow]
    obtain ⟨-, estimate, inForce⟩ := s.placeSample_enough_reg sample enough
    rw [inForce, estimate, clampedEstimate, shallow]
    rfl
  · rw [← deep] at enough
    obtain ⟨-, estimate, inForce⟩ := s.placeSample_enough_reg sample enough
    rw [inForce, estimate, clampedEstimate, deep]
    rfl

/-! ## Hold causes -/

/-- Settles O26: WEBBREAK and HALT are entry to HOLD, which does nothing outside RUN and ENDING; the expiry asks for
a running timer first. -/
theorem holdCausesTakeEffect : Obligations.HoldCausesTakeEffect := by
  intro s
  refine ⟨fun ha => ?_, fun stopped => ?_, fun n timed => ?_⟩
  · have webbreak : exec .webbreak s = .next (s.enterHold .webBreak) := by
      change execWebbreak s = _
      rw [execWebbreak, s.ifAddressed_addressed _ ha]
    have halt : exec .halt s = .next (if s.running then (s.enterHold .halt).reply .ok else s.reply .wrongState) := by
      change execHalt s = _
      rw [execHalt, s.ifAddressed_addressed _ ha]
    refine ⟨fun hr => ⟨webbreak, ?_⟩, fun idle => ⟨?_, ?_⟩⟩
    · rw [halt, if_pos hr]
    · rw [webbreak, s.enterHold_idle _ idle]
    · rw [halt, idle]
      rfl
  · change execLinkLossTimerExpiry s = _
    rw [execLinkLossTimerExpiry, stopped]
  · have expires (u : State) (hu : u = ({ s with link := { s.link with timer := none, linkDown := true } }
        : State).notify .linkDown none (BitVec.ofNat 32 n)) :
        exec .linkLossTimerExpiry s = .next (u.enterHold .linkLoss) := by
      change execLinkLossTimerExpiry s = _
      rw [execLinkLossTimerExpiry, timed, hu]
      rfl
    exact ⟨fun _ => expires _ rfl, fun idle => (expires _ rfl).trans (congrArg _ (State.enterHold_idle _ _ idle))⟩

/-! ## ARM -/

/-- ARM in CONFIG with a check that fails answers its reason (R158). -/
theorem exec_arm_fails (s : State) (ha : s.addressed = true) (hc : s.job.state = .config) (reason : ArmReason)
    (fails : s.job.armFailure = some reason) : exec .arm s = .next (s.answer .badJob (beBytes 1 reason.code)) := by
  change execArm s = _
  rw [execArm, s.ifAddressed_addressed _ ha, if_pos hc, fails]

/-- ARM in CONFIG with no check that fails arms the job (R158, R159). -/
theorem exec_arm_passes (s : State) (ha : s.addressed = true) (hc : s.job.state = .config)
    (passes : s.job.armFailure = none) : exec .arm s
      = .next (((s.onJob fun j => { j with validated := j.loop.limit }).enterJobState .armed .none).reply .ok) := by
  change execArm s = _
  rw [execArm, s.ifAddressed_addressed _ ha, if_pos hc, passes]

/-- The check of Table 9-5 in row i + 1. -/
def armCheck (i : Fin 9) : ArmReason :=
  armChecks[i.val]

theorem armCheck_code (i : Fin 9) : (armCheck i).code = i.val + 1 := by
  revert i; decide

theorem armCheck_span_place (i : Fin 9) (h : armCheck i = .span) : 7 ≤ i.val := by
  revert i; decide

theorem beBytes_one (v : Nat) : beBytes 1 v = [BitVec.ofNat 8 v] := by
  simp [beBytes]

/-- The first failing check is the one whose predecessors all hold. -/
theorem JobControl.armFailure_eq_some (c : JobControl) (i : Fin 9)
    (fails : (armCheck i).holds c.job c.station c.loop = false)
    (before : ∀ i' < i, (armCheck i').holds c.job c.station c.loop = true) : c.armFailure = some (armCheck i) := by
  rw [JobControl.armFailure, List.find?_eq_some_iff_getElem]
  refine ⟨by simp [fails], i.val, i.isLt, rfl, fun j hj => ?_⟩
  simpa [armCheck] using before ⟨j, hj.trans i.isLt⟩ hj

theorem JobControl.armFailure_eq_none (c : JobControl)
    (all : ∀ i, (armCheck i).holds c.job c.station c.loop = true) : c.armFailure = none := by
  rw [JobControl.armFailure, List.find?_eq_none]
  intro x hx
  obtain ⟨i, hi, rfl⟩ := List.getElem_of_mem hx
  simpa [armCheck] using all ⟨i, hi⟩

/-- R158 check 8: the span of the web, with the division cleared. -/
theorem ceilDiv_span_iff (dS pitch limit window : Nat) (above : window < pitch) :
    ceilDiv ((dS : Int) + 2 * pitch + limit + window) ((pitch : Int) - window) + 2 ≤ 256
      ↔ dS + 2 * pitch + limit + window ≤ 254 * (pitch - window) := by
  unfold ceilDiv
  obtain ⟨b, rfl⟩ : ∃ b, pitch = window + (b + 1) := ⟨pitch - window - 1, by omega⟩
  have hb : ((window + (b + 1) : Nat) : Int) - window = (b + 1 : Nat) := by omega
  rw [hb]
  have key : ∀ a : Int, (a + ((b + 1 : Nat) : Int) - 1) / ((b + 1 : Nat) : Int) ≤ 254
      ↔ a ≤ 254 * ((b + 1 : Nat) : Int) := by
    intro a
    rw [← Int.lt_add_one_iff, Int.ediv_lt_iff_lt_mul (by omega)]
    omega
  have := key ((dS : Int) + 2 * ((window + (b + 1) : Nat) : Int) + limit + window)
  omega

/-- The nine conditions in natural numbers, as the obligation states them (Table 9-5). -/
def ArmReason.holdsNat (j : JobRec) (t : StationRec) (l : LoopRec) : ArmReason → Bool
  | .lanes => decide (1 ≤ j.lanes ∧ j.lanes ≤ 8 ∧ 1 ≤ j.cycle ∧ j.cycle ≤ 16)
  | .repeatLength => decide (2000 ≤ j.pitch ∧ j.pitch ≤ 60000 ∧ j.m2c < j.pitch)
  | .window => decide (100 ≤ j.window ∧ 8 * j.window ≤ j.pitch)
  | .stations => decide (t.dC ≤ t.dK ∧ t.dK < t.dX ∧ t.dX < t.dS ∧ t.dK < t.dG ∧ t.dG < t.dS ∧ t.dS ≤ 400000)
  | .leads => decide (t.knifeLead < t.knifeHorizon ∧ t.gateLead < t.gateHorizon)
  | .knifeHorizon => decide (j.window + t.knifeHorizon + l.limit ≤ t.dK)
  | .commitHorizon => decide (t.dK + j.pitch + 2 * j.window + l.limit + t.gateHorizon ≤ t.dG)
  | .span => decide (t.dS + 2 * j.pitch + l.limit + j.window ≤ 254 * (j.pitch - j.window))
  | .thresholds => decide (j.lowThreshold < j.highThreshold ∧ l.lockTolerance < l.unlockTolerance)

/-- The two readings of a check agree; that of the span only where the window is below the repeat length, which an
earlier check asks. -/
theorem ArmReason.holds_eq_holdsNat (j : JobRec) (t : StationRec) (l : LoopRec) (x : ArmReason)
    (above : x = .span → j.window < j.pitch) : x.holds j t l = x.holdsNat j t l := by
  cases x
  case knifeHorizon =>
    simp only [ArmReason.holds, ArmReason.holdsNat, decide_eq_decide]
    omega
  case commitHorizon =>
    simp only [ArmReason.holds, ArmReason.holdsNat, decide_eq_decide]
    omega
  case span =>
    simp only [ArmReason.holds, ArmReason.holdsNat, decide_eq_decide]
    exact ceilDiv_span_iff t.dS j.pitch l.limit j.window (above rfl)
  all_goals rfl

theorem window_lt_pitch_of_window_check (j : JobRec) (t : StationRec) (l : LoopRec)
    (h : ArmReason.window.holdsNat j t l = true) : j.window < j.pitch := by
  simp only [ArmReason.holdsNat, decide_eq_true_eq] at h
  omega

/-- Settles O51: the checks in natural numbers are the model's, so the first that fails is the one `armFailure`
finds. -/
theorem armChecksInOrder : Obligations.ArmChecksInOrder := by
  intro s ha j t l ok
  have natural (i : Fin 9) : ok i = (armCheck i).holdsNat j t l := by
    fin_cases i <;> rfl
  have agree (i : Fin 9) (window : 7 ≤ i.val → ok 2 = true) :
      (armCheck i).holds s.job.job s.job.station s.job.loop = ok i := by
    rw [natural]
    refine ArmReason.holds_eq_holdsNat j t l _ fun span => ?_
    refine window_lt_pitch_of_window_check j t l ((natural 2).symm.trans (window ?_))
    exact armCheck_span_place i span
  refine ⟨fun hc all => ?_, fun i hc fails before => ?_, fun hn => ?_⟩
  · have passes : s.job.armFailure = none :=
      s.job.armFailure_eq_none fun i => (agree i fun _ => all 2).trans (all i)
    exact exec_arm_passes s ha hc passes
  · have first : s.job.armFailure = some (armCheck i) := by
      refine s.job.armFailure_eq_some i ((agree i fun h => before 2 ?_).trans fails) fun i' hi' =>
        (agree i' fun h => before 2 ?_).trans (before i' hi')
      · exact Fin.lt_def.2 (by simpa using by omega)
      · exact Fin.lt_def.2 (by have := Fin.lt_def.1 hi'; simpa using by omega)
    rw [exec_arm_fails s ha hc _ first, armCheck_code, beBytes_one]
  · change execArm s = _
    rw [execArm, s.ifAddressed_addressed _ ha, if_neg hn]

end Sys2Proof.Machine
end

section
/-! Bytes: the fields of a run of bytes and the bytes of a field (11.1). -/

namespace Sys2Proof.Machine

@[simp] theorem byteAt_skip (xs rest : List Byte) (off : Nat) (h : xs.length ≤ off) :
    byteAt (xs ++ rest) off = byteAt rest (off - xs.length) := by
  rw [byteAt, byteAt, List.getD_append_right _ _ _ _ h]

@[simp] theorem byteAt_cons_zero (x : Byte) (rest : List Byte) : byteAt (x :: rest) 0 = x := rfl

@[simp] theorem byteAt_cons_succ (x : Byte) (rest : List Byte) (off : Nat) :
    byteAt (x :: rest) (off + 1) = byteAt rest off := rfl

@[simp] theorem fieldAt_cons_succ (x : Byte) (rest : List Byte) (off n : Nat) :
    fieldAt (x :: rest) (off + 1) n = fieldAt rest off n := by
  induction n with
  | zero => rfl
  | succ n ih => rw [fieldAt, fieldAt, ih, Nat.add_right_comm, byteAt_cons_succ]

@[simp] theorem fieldAt_skip (xs rest : List Byte) (off n : Nat) (h : xs.length ≤ off) :
    fieldAt (xs ++ rest) off n = fieldAt rest (off - xs.length) n := by
  induction n with
  | zero => rfl
  | succ n ih =>
    rw [fieldAt, fieldAt, ih, byteAt_skip xs rest _ (by omega), Nat.sub_add_comm h]

/-- A field inside the first part does not see what follows. -/
theorem fieldAt_within (xs rest : List Byte) (off n : Nat) (h : off + n ≤ xs.length) :
    fieldAt (xs ++ rest) off n = fieldAt xs off n := by
  induction n with
  | zero => rfl
  | succ n ih =>
    rw [fieldAt, fieldAt, ih (by omega), byteAt, byteAt, List.getD_append _ _ _ _ (by omega)]

/-- Reading from the most significant byte on: the first byte weighs the most. -/
theorem fieldAt_cons (x : Byte) (rest : List Byte) (n : Nat) :
    fieldAt (x :: rest) 0 (n + 1) = x.toNat * 256 ^ n + fieldAt rest 0 n := by
  induction n with
  | zero => simp [fieldAt, byteAt_cons_zero]
  | succ n ih =>
    rw [fieldAt, ih, show (0 + (n + 1)) = n + 1 by omega, byteAt_cons_succ, fieldAt, Nat.zero_add]
    ring

theorem fieldAt_lt (bs : List Byte) (off n : Nat) : fieldAt bs off n < 256 ^ n := by
  induction n with
  | zero => simp [fieldAt]
  | succ n ih =>
    have := (byteAt bs (off + n)).isLt
    rw [fieldAt, pow_succ]
    omega

/-- A number of `n` bytes is read back modulo what `n` bytes hold. -/
@[simp] theorem fieldAt_beBytes (n v : Nat) (rest : List Byte) : fieldAt (beBytes n v ++ rest) 0 n = v % 256 ^ n := by
  induction n with
  | zero => simp [fieldAt, Nat.mod_one]
  | succ n ih =>
    rw [beBytes, List.cons_append, fieldAt_cons, ih, BitVec.toNat_ofNat, pow_succ 256 n, Nat.mod_mul,
      Nat.mul_comm, Nat.add_comm]

@[simp] theorem fieldAt_beBytes_self (n v : Nat) : fieldAt (beBytes n v) 0 n = v % 256 ^ n := by
  simpa using fieldAt_beBytes n v []

theorem drop_eq_byte_cons (b : List Byte) (off : Nat) (h : off < b.length) :
    b.drop off = byteAt b off :: b.drop (off + 1) := by
  rw [List.drop_eq_getElem_cons h, byteAt, List.getD_eq_getElem _ _ h]

/-- The bytes of the number that a run of bytes spells are that run. -/
theorem beBytes_fieldAt_cons (x : Byte) (rest : List Byte) (n : Nat) :
    beBytes (n + 1) (fieldAt (x :: rest) 0 (n + 1)) = x :: beBytes n (fieldAt rest 0 n) := by
  have low := fieldAt_lt rest 0 n
  have wraps (m v w : Nat) : beBytes m (v * 256 ^ m + w) = beBytes m w := by
    induction m generalizing v with
    | zero => rfl
    | succ m ih =>
      rw [beBytes, beBytes, show v * 256 ^ (m + 1) + w = (v * 256) * 256 ^ m + w by ring, ih]
      congr 1
      rw [Nat.mul_comm, Nat.mul_add_div (by positivity)]
      apply BitVec.eq_of_toNat_eq
      simp only [BitVec.toNat_ofNat]
      omega
  rw [beBytes, fieldAt_cons, wraps]
  congr 1
  rw [Nat.mul_comm, Nat.mul_add_div (by positivity), Nat.div_eq_of_lt low, Nat.add_zero, BitVec.ofNat_toNat]
  simp

theorem byteAt_drop (b : List Byte) (off i : Nat) : byteAt (b.drop off) i = byteAt b (off + i) := by
  simp [byteAt]

theorem fieldAt_drop (b : List Byte) (off i n : Nat) : fieldAt (b.drop off) i n = fieldAt b (off + i) n := by
  induction n with
  | zero => rfl
  | succ n ih => rw [fieldAt, fieldAt, ih, byteAt_drop, Nat.add_assoc]

theorem drop_eq_field (b : List Byte) (off n : Nat) (h : off + n ≤ b.length) :
    b.drop off = beBytes n (fieldAt b off n) ++ b.drop (off + n) := by
  induction n generalizing off with
  | zero => simp [beBytes]
  | succ n ih =>
    have next := ih (off + 1) (by omega)
    have whole := fieldAt_drop b off 0 (n + 1)
    have tail := fieldAt_drop b (off + 1) 0 n
    simp only [Nat.add_zero] at whole tail
    rw [← whole, drop_eq_byte_cons b off (by omega), beBytes_fieldAt_cons, tail, List.cons_append,
      show off + (n + 1) = off + 1 + n by omega, ← next]

/-- A whole run of bytes is its first field and what follows it. -/
theorem eq_field_append_drop (b : List Byte) (n : Nat) (h : n ≤ b.length) :
    b = beBytes n (fieldAt b 0 n) ++ b.drop n := by
  simpa using drop_eq_field b 0 n (by omega)

end Sys2Proof.Machine
end

section
/-! Table entries: what a READ returns is what a WRITE reads, both ways (Tables 11-4 and 11-6). -/

namespace Sys2Proof.Machine

/-! ## Reading one field with its range -/

/-- A field in its range is taken as it stands, and any other ends the reading. -/
theorem ranged_bind_eq_some {α : Type} (lo hi v : Nat) (f : Nat → Option α) (x : α) :
    (ranged lo hi v >>= f) = some x ↔ (lo ≤ v ∧ v ≤ hi) ∧ f v = some x := by
  unfold ranged
  split
  next h => exact (and_iff_right h).symm
  next h => exact ⟨(nomatch ·), fun e => absurd e.1 h⟩

theorem rangedInt_bind_eq_some {α : Type} (lo hi v : Int) (f : Int → Option α) (x : α) :
    (rangedInt lo hi v >>= f) = some x ↔ (lo ≤ v ∧ v ≤ hi) ∧ f v = some x := by
  unfold rangedInt
  split
  next h => exact (and_iff_right h).symm
  next h => exact ⟨(nomatch ·), fun e => absurd e.1 h⟩

theorem flagAt_eq_some (b : List Byte) (off : Nat) (f : Bool) : flagAt b off = some f ↔ byteAt b off = flagByte f := by
  unfold flagAt
  split
  next h => cases f <;> simp [h, flagByte]
  next h =>
    split
    next h1 => cases f <;> simp [h1, flagByte]
    next h1 => cases f <;> simp [h, h1, flagByte]

theorem policyAt_eq_some (b : List Byte) (off : Nat) (p : MarkPolicy) :
    policyAt b off = some p ↔ byteAt b off = flagByte (p == .reject) := by
  simp only [policyAt, Option.map_eq_some_iff, flagAt_eq_some]
  cases p <;> simp [flagByte]

theorem flagAt_bind_eq_some {α : Type} (b : List Byte) (off : Nat) (f : Bool → Option α) (x : α) :
    (flagAt b off >>= f) = some x ↔ ∃ set, byteAt b off = flagByte set ∧ f set = some x := by
  simp only [Option.bind_eq_bind, Option.bind_eq_some_iff, flagAt_eq_some]

theorem policyAt_bind_eq_some {α : Type} (b : List Byte) (off : Nat) (f : MarkPolicy → Option α) (x : α) :
    (policyAt b off >>= f) = some x ↔ ∃ p : MarkPolicy, byteAt b off = flagByte (p == .reject) ∧ f p = some x := by
  simp only [Option.bind_eq_bind, Option.bind_eq_some_iff, policyAt_eq_some]

@[simp] theorem intBytes_length (n : Nat) (v : Int) : (intBytes n v).length = n :=
  beBytes_length n _

@[simp] theorem signedFieldAt_skip (xs rest : List Byte) (off : Nat) (h : xs.length ≤ off) :
    signedFieldAt (xs ++ rest) off = signedFieldAt rest (off - xs.length) := by
  rw [signedFieldAt, signedFieldAt, fieldAt_skip xs rest off 4 h]

/-- A signed number is read back from its four bytes, if it fits. -/
theorem signedFieldAt_intBytes (v : Int) (rest : List Byte) (lo : -2147483648 ≤ v) (hi : v < 2147483648) :
    signedFieldAt (intBytes 4 v ++ rest) 0 = v := by
  have fits : (BitVec.ofInt 32 v).toNat % 256 ^ 4 = (BitVec.ofInt 32 v).toNat := Nat.mod_eq_of_lt (BitVec.isLt _)
  rw [signedFieldAt, intBytes, fieldAt_beBytes, fits, BitVec.ofNat_toNat, BitVec.setWidth_eq, BitVec.toInt_ofInt]
  exact Int.bmod_eq_of_le (by omega) (by omega)

/-- The bytes of the signed field read are the bytes that it was read from. -/
theorem intBytes_signedFieldAt (b : List Byte) (off : Nat) :
    intBytes 4 (signedFieldAt b off) = beBytes 4 (fieldAt b off 4) := by
  have fits : (BitVec.ofNat 32 (fieldAt b off 4)).toNat = fieldAt b off 4 :=
    Nat.mod_eq_of_lt (fieldAt_lt b off 4)
  rw [intBytes, signedFieldAt, BitVec.ofInt_toInt, fits]

/-! ## JOB -/

/-- What an entry must be for a WRITE to read it as this JOB record. -/
theorem JobRec.parse_eq_some (b : List Byte) (r : JobRec) :
    JobRec.parse b = some r ↔ r.InRange ∧ fieldAt b 0 1 = r.lanes ∧ fieldAt b 1 2 = r.pitch
      ∧ fieldAt b 3 1 = r.cycle ∧ fieldAt b 4 2 = r.m2c ∧ fieldAt b 6 2 = r.window
      ∧ fieldAt b 8 1 = r.missingLimit ∧ fieldAt b 9 1 = r.depth ∧ fieldAt b 10 4 = r.lowThreshold
      ∧ fieldAt b 14 4 = r.highThreshold ∧ byteAt b 18 = flagByte r.windowMode
      ∧ byteAt b 19 = flagByte (r.policy == .reject) ∧ fieldAt b 20 2 = r.marginBefore
      ∧ fieldAt b 22 2 = r.marginAfter := by
  unfold JobRec.parse
  simp only [ranged_bind_eq_some, flagAt_bind_eq_some, policyAt_bind_eq_some]
  constructor
  · rintro ⟨r0, r1, r2, r3, r4, r5, r6, r7, r8, _, f9, _, f10, r11, r12, made⟩
    cases made
    exact ⟨⟨r0, r1, r2, r3.2, r4, r5.2, r6.2, r7.2, r8.2, r11.2, r12.2⟩, rfl, rfl, rfl, rfl, rfl, rfl, rfl, rfl, rfl,
      f9, f10, rfl, rfl⟩
  · rintro ⟨⟨r0, r1, r2, r3, r4, r5, r6, r7, r8, r11, r12⟩, f0, f1, f2, f3, f4, f5, f6, f7, f8, f9, f10, f11, f12⟩
    rw [f0, f1, f2, f3, f4, f5, f6, f7, f8, f11, f12]
    exact ⟨r0, r1, r2, ⟨Nat.zero_le _, r3⟩, r4, ⟨Nat.zero_le _, r5⟩, ⟨Nat.zero_le _, r6⟩, ⟨Nat.zero_le _, r7⟩,
      ⟨Nat.zero_le _, r8⟩, _, f9, _, f10, ⟨Nat.zero_le _, r11⟩, ⟨Nat.zero_le _, r12⟩, rfl⟩

theorem JobRec.parse_bytes (r : JobRec) (range : r.InRange) : JobRec.parse r.bytes = some r := by
  refine (JobRec.parse_eq_some _ r).2 ⟨range, ?_, ?_, ?_, ?_, ?_, ?_, ?_, ?_, ?_, ?_, ?_, ?_, ?_⟩
  all_goals simp [JobRec.bytes, List.append_assoc]
  all_goals omega

theorem JobRec.bytes_of_parse (b : List Byte) (r : JobRec) (h : JobRec.parse b = some r) (size : b.length = 24) :
    r.bytes = b := by
  obtain ⟨-, f0, f1, f2, f3, f4, f5, f6, f7, f8, f9, f10, f11, f12⟩ := (JobRec.parse_eq_some b r).1 h
  conv_rhs =>
    rw [eq_field_append_drop b 1 (by omega), drop_eq_field b 1 2 (by omega), drop_eq_field b 3 1 (by omega),
      drop_eq_field b 4 2 (by omega), drop_eq_field b 6 2 (by omega), drop_eq_field b 8 1 (by omega),
      drop_eq_field b 9 1 (by omega), drop_eq_field b 10 4 (by omega), drop_eq_field b 14 4 (by omega),
      drop_eq_byte_cons b 18 (by omega), drop_eq_byte_cons b 19 (by omega), drop_eq_field b 20 2 (by omega),
      drop_eq_field b 22 2 (by omega), List.drop_eq_nil_of_le (show b.length ≤ 22 + 2 by omega)]
  rw [f0, f1, f2, f3, f4, f5, f6, f7, f8, f9, f10, f11, f12]
  simp [JobRec.bytes]

/-! ## STATION -/

/-- What an entry must be for a WRITE to read it as this STATION record. -/
theorem StationRec.parse_eq_some (b : List Byte) (r : StationRec) :
    StationRec.parse b = some r ↔ r.InRange ∧ signedFieldAt b 0 = r.dC ∧ signedFieldAt b 4 = r.dU
      ∧ fieldAt b 8 4 = r.dK ∧ fieldAt b 12 4 = r.dX ∧ fieldAt b 16 4 = r.dG ∧ fieldAt b 20 4 = r.dS
      ∧ fieldAt b 24 4 = r.knifeHorizon ∧ fieldAt b 28 4 = r.knifeLead ∧ fieldAt b 32 4 = r.gateHorizon
      ∧ fieldAt b 36 4 = r.gateLead ∧ fieldAt b 40 2 = r.reverseTolerance ∧ fieldAt b 42 1 = r.knifeNode
      ∧ fieldAt b 43 1 = r.gateNode ∧ fieldAt b 44 1 = r.ringTimeout := by
  unfold StationRec.parse
  simp only [ranged_bind_eq_some, rangedInt_bind_eq_some]
  constructor
  · rintro ⟨r0, r1, r2, r3, r4, r5, r6, r7, r8, r9, r10, r11, r12, r13, made⟩
    cases made
    exact ⟨⟨r0, r1, r2, r3, r4, r5, r6, r7.2, r8, r9.2, r10.2, r11, r12, r13⟩, rfl, rfl, rfl, rfl, rfl, rfl, rfl,
      rfl, rfl, rfl, rfl, rfl, rfl, rfl⟩
  · rintro ⟨⟨r0, r1, r2, r3, r4, r5, r6, r7, r8, r9, r10, r11, r12, r13⟩, f0, f1, f2, f3, f4, f5, f6, f7, f8, f9,
      f10, f11, f12, f13⟩
    rw [f0, f1, f2, f3, f4, f5, f6, f7, f8, f9, f10, f11, f12, f13]
    exact ⟨r0, r1, r2, r3, r4, r5, r6, ⟨Nat.zero_le _, r7⟩, r8, ⟨Nat.zero_le _, r9⟩, ⟨Nat.zero_le _, r10⟩, r11, r12,
      r13, rfl⟩

theorem StationRec.parse_bytes (r : StationRec) (range : r.InRange) : StationRec.parse r.bytes = some r := by
  refine (StationRec.parse_eq_some _ r).2 ⟨range, ?dC, ?dU, ?_, ?_, ?_, ?_, ?_, ?_, ?_, ?_, ?_, ?_, ?_, ?_⟩
  case dC =>
    simp only [StationRec.bytes, List.append_assoc]
    exact signedFieldAt_intBytes r.dC _ (by omega) (by omega)
  case dU =>
    simpa [StationRec.bytes, List.append_assoc] using signedFieldAt_intBytes r.dU _ (by omega) (by omega)
  all_goals simp [StationRec.bytes, List.append_assoc]
  all_goals omega

theorem StationRec.bytes_of_parse (b : List Byte) (r : StationRec) (h : StationRec.parse b = some r)
    (size : b.length = 48) : r.bytes = b.take 45 ++ [0#8, 0#8, 0#8] := by
  obtain ⟨-, f0, f1, f2, f3, f4, f5, f6, f7, f8, f9, f10, f11, f12, f13⟩ := (StationRec.parse_eq_some b r).1 h
  have read : (b.take 45).drop 45 = [] := List.drop_eq_nil_of_le (by simp)
  have named : beBytes 4 (fieldAt b 0 4) ++ beBytes 4 (fieldAt b 4 4) ++ beBytes 4 r.dK ++ beBytes 4 r.dX
      ++ beBytes 4 r.dG ++ beBytes 4 r.dS ++ beBytes 4 r.knifeHorizon ++ beBytes 4 r.knifeLead
      ++ beBytes 4 r.gateHorizon ++ beBytes 4 r.gateLead ++ beBytes 2 r.reverseTolerance ++ beBytes 1 r.knifeNode
      ++ beBytes 1 r.gateNode ++ beBytes 1 r.ringTimeout ++ b.drop 45 = b := by
    conv_rhs =>
      rw [eq_field_append_drop b 4 (by omega), drop_eq_field b 4 4 (by omega), drop_eq_field b 8 4 (by omega),
        drop_eq_field b 12 4 (by omega), drop_eq_field b 16 4 (by omega), drop_eq_field b 20 4 (by omega),
        drop_eq_field b 24 4 (by omega), drop_eq_field b 28 4 (by omega), drop_eq_field b 32 4 (by omega),
        drop_eq_field b 36 4 (by omega), drop_eq_field b 40 2 (by omega), drop_eq_field b 42 1 (by omega),
        drop_eq_field b 43 1 (by omega), drop_eq_field b 44 1 (by omega)]
    rw [f2, f3, f4, f5, f6, f7, f8, f9, f10, f11, f12, f13]
    simp
  rw [StationRec.bytes, ← f0, ← f1, intBytes_signedFieldAt, intBytes_signedFieldAt]
  refine congrArg (· ++ [0#8, 0#8, 0#8]) (List.append_cancel_right (bs := b.drop 45) ?_)
  rw [List.take_append_drop, named]

/-! ## LOOP -/

/-- What an entry must be for a WRITE to read it as this LOOP record. -/
theorem LoopRec.parse_eq_some (b : List Byte) (r : LoopRec) :
    LoopRec.parse b = some r ↔ r.InRange ∧ fieldAt b 0 2 = r.kp ∧ fieldAt b 2 2 = r.ki ∧ fieldAt b 4 2 = r.limit
      ∧ fieldAt b 6 2 = r.maxStep ∧ fieldAt b 8 2 = r.lockTolerance ∧ fieldAt b 10 2 = r.unlockTolerance := by
  unfold LoopRec.parse
  simp only [ranged_bind_eq_some]
  constructor
  · rintro ⟨r0, r1, r2, r3, r4, r5, made⟩
    cases made
    exact ⟨⟨r0.2, r1.2, r2.2, r3, r4, r5⟩, rfl, rfl, rfl, rfl, rfl, rfl⟩
  · rintro ⟨⟨r0, r1, r2, r3, r4, r5⟩, f0, f1, f2, f3, f4, f5⟩
    rw [f0, f1, f2, f3, f4, f5]
    exact ⟨⟨Nat.zero_le _, r0⟩, ⟨Nat.zero_le _, r1⟩, ⟨Nat.zero_le _, r2⟩, r3, r4, r5, rfl⟩

theorem LoopRec.parse_bytes (r : LoopRec) (range : r.InRange) : LoopRec.parse r.bytes = some r := by
  refine (LoopRec.parse_eq_some _ r).2 ⟨range, ?_, ?_, ?_, ?_, ?_, ?_⟩
  all_goals simp [LoopRec.bytes, List.append_assoc]
  all_goals omega

theorem LoopRec.bytes_of_parse (b : List Byte) (r : LoopRec) (h : LoopRec.parse b = some r) (size : b.length = 12) :
    r.bytes = b := by
  obtain ⟨-, f0, f1, f2, f3, f4, f5⟩ := (LoopRec.parse_eq_some b r).1 h
  conv_rhs =>
    rw [eq_field_append_drop b 2 (by omega), drop_eq_field b 2 2 (by omega), drop_eq_field b 4 2 (by omega),
      drop_eq_field b 6 2 (by omega), drop_eq_field b 8 2 (by omega), drop_eq_field b 10 2 (by omega),
      List.drop_eq_nil_of_le (show b.length ≤ 10 + 2 by omega)]
  rw [f0, f1, f2, f3, f4, f5]
  simp [LoopRec.bytes]

/-! ## LANE -/

/-- What an entry must be for a WRITE to read it as this LANE entry. -/
theorem LaneCfg.parse_eq_some (b : List Byte) (r : LaneCfg) :
    LaneCfg.parse b = some r ↔ r.InRange ∧ byteAt b 0 = flagByte r.enabled ∧ fieldAt b 1 1 = r.node
      ∧ fieldAt b 2 2 = r.target ∧ fieldAt b 4 1 = r.changeGap ∧ fieldAt b 5 1 = r.holdLimit
      ∧ fieldAt b 6 2 = r.timeout ∧ fieldAt b 8 2 = r.gatePre ∧ fieldAt b 10 2 = r.gatePost := by
  unfold LaneCfg.parse
  simp only [ranged_bind_eq_some, flagAt_bind_eq_some]
  constructor
  · rintro ⟨_, f0, r1, r2, r3, r4, r5, r6, r7, made⟩
    cases made
    exact ⟨⟨r1, r2, r3.2, r4.2, r5, r6.2, r7.2⟩, f0, rfl, rfl, rfl, rfl, rfl, rfl, rfl⟩
  · rintro ⟨⟨r1, r2, r3, r4, r5, r6, r7⟩, f0, f1, f2, f3, f4, f5, f6, f7⟩
    rw [f1, f2, f3, f4, f5, f6, f7]
    exact ⟨_, f0, r1, r2, ⟨Nat.zero_le _, r3⟩, ⟨Nat.zero_le _, r4⟩, r5, ⟨Nat.zero_le _, r6⟩, ⟨Nat.zero_le _, r7⟩, rfl⟩

theorem LaneCfg.parse_bytes (r : LaneCfg) (range : r.InRange) : LaneCfg.parse r.bytes = some r := by
  refine (LaneCfg.parse_eq_some _ r).2 ⟨range, ?_, ?_, ?_, ?_, ?_, ?_, ?_, ?_⟩
  all_goals simp [LaneCfg.bytes, List.append_assoc]
  all_goals omega

theorem LaneCfg.bytes_of_parse (b : List Byte) (r : LaneCfg) (h : LaneCfg.parse b = some r) (size : b.length = 12) :
    r.bytes = b := by
  obtain ⟨-, f0, f1, f2, f3, f4, f5, f6, f7⟩ := (LaneCfg.parse_eq_some b r).1 h
  conv_rhs =>
    rw [← List.drop_zero (l := b), drop_eq_byte_cons b 0 (by omega), drop_eq_field b (0 + 1) 1 (by omega),
      drop_eq_field b (0 + 1 + 1) 2 (by omega), drop_eq_field b (0 + 1 + 1 + 2) 1 (by omega),
      drop_eq_field b (0 + 1 + 1 + 2 + 1) 1 (by omega), drop_eq_field b (0 + 1 + 1 + 2 + 1 + 1) 2 (by omega),
      drop_eq_field b (0 + 1 + 1 + 2 + 1 + 1 + 2) 2 (by omega),
      drop_eq_field b (0 + 1 + 1 + 2 + 1 + 1 + 2 + 2) 2 (by omega),
      List.drop_eq_nil_of_le (show b.length ≤ 0 + 1 + 1 + 2 + 1 + 1 + 2 + 2 + 2 by omega)]
  simp only [LaneCfg.bytes, f0, f1, f2, f3, f4, f5, f6, f7, Nat.reduceAdd]
  simp

/-! ## SCHED, OVERRIDE, DISP and SENSOR -/

theorem SchedEntry.parse_eq_some (b : List Byte) (e : SchedEntry) :
    SchedEntry.parse b = some e ↔ e.InRange ∧ byteAt b 0 = flagByte (e.mode == .ratio) ∧ fieldAt b 1 1 = e.weight := by
  unfold SchedEntry.parse
  simp only [ranged_bind_eq_some, flagAt_bind_eq_some]
  constructor
  · rintro ⟨ratio, f0, r1, made⟩
    cases made
    exact ⟨r1, by cases ratio <;> exact f0, rfl⟩
  · rintro ⟨r1, f0, f1⟩
    obtain ⟨mode, weight⟩ := e
    rw [f1]
    exact ⟨_, f0, r1, by cases mode <;> rfl⟩

theorem SchedEntry.parse_bytes (e : SchedEntry) (range : e.InRange) : SchedEntry.parse e.bytes = some e := by
  refine (SchedEntry.parse_eq_some _ e).2 ⟨range, rfl, ?_⟩
  simp [SchedEntry.bytes]
  omega

theorem SchedEntry.bytes_of_parse (b : List Byte) (e : SchedEntry) (h : SchedEntry.parse b = some e)
    (size : b.length = 2) : e.bytes = b := by
  obtain ⟨-, f0, f1⟩ := (SchedEntry.parse_eq_some b e).1 h
  conv_rhs =>
    rw [← List.drop_zero (l := b), drop_eq_byte_cons b 0 (by omega), drop_eq_field b (0 + 1) 1 (by omega),
      List.drop_eq_nil_of_le (show b.length ≤ 0 + 1 + 1 by omega)]
  simp [SchedEntry.bytes, f0, f1]

theorem OverrideEntry.parse_eq_some (b : List Byte) (e : OverrideEntry) :
    OverrideEntry.parse b = some e ↔ byteAt b 0 = flagByte e.valid
      ∧ byteAt b 1 = flagByte (e.action == .forceAccept) ∧ fieldAt b 2 4 = e.first.toNat
      ∧ fieldAt b 6 4 = e.last.toNat ∧ byteAt b 10 = e.lanes := by
  have word (off : Nat) (w : Word) : fieldAt b off 4 = w.toNat ↔ BitVec.ofNat 32 (fieldAt b off 4) = w := by
    have fits : (BitVec.ofNat 32 (fieldAt b off 4)).toNat = fieldAt b off 4 :=
      Nat.mod_eq_of_lt (fieldAt_lt b off 4)
    rw [BitVec.toNat_eq, fits]
  unfold OverrideEntry.parse
  simp only [flagAt_bind_eq_some, word]
  constructor
  · rintro ⟨_, f0, accept, f1, made⟩
    cases made
    exact ⟨f0, by cases accept <;> exact f1, rfl, rfl, rfl⟩
  · rintro ⟨f0, f1, f2, f3, f4⟩
    obtain ⟨valid, action, first, last, lanes⟩ := e
    exact ⟨_, f0, _, f1, by rw [f2, f3, f4]; cases action <;> rfl⟩

theorem OverrideEntry.parse_bytes (e : OverrideEntry) : OverrideEntry.parse e.bytes = some e := by
  have first := e.first.isLt
  have last := e.last.isLt
  refine (OverrideEntry.parse_eq_some _ e).2 ⟨rfl, rfl, ?_, ?_, ?_⟩
  all_goals simp [OverrideEntry.bytes]
  all_goals omega

theorem OverrideEntry.bytes_of_parse (b : List Byte) (e : OverrideEntry) (h : OverrideEntry.parse b = some e)
    (size : b.length = 12) : e.bytes = b.take 11 ++ [0#8] := by
  obtain ⟨f0, f1, f2, f3, f4⟩ := (OverrideEntry.parse_eq_some b e).1 h
  have named : [flagByte e.valid, flagByte (e.action == .forceAccept)] ++ beBytes 4 e.first.toNat
      ++ beBytes 4 e.last.toNat ++ [e.lanes] ++ b.drop 11 = b := by
    conv_rhs =>
      rw [← List.drop_zero (l := b), drop_eq_byte_cons b 0 (by omega), drop_eq_byte_cons b (0 + 1) (by omega),
        drop_eq_field b (0 + 1 + 1) 4 (by omega), drop_eq_field b (0 + 1 + 1 + 4) 4 (by omega),
        drop_eq_byte_cons b (0 + 1 + 1 + 4 + 4) (by omega)]
    simp [f0, f1, f2, f3, f4]
  have cut : [flagByte e.valid, flagByte (e.action == .forceAccept)] ++ beBytes 4 e.first.toNat
      ++ beBytes 4 e.last.toNat ++ [e.lanes] = b.take 11 :=
    List.append_cancel_right (bs := b.drop 11) (by rw [named, List.take_append_drop])
  rw [← cut]
  simp [OverrideEntry.bytes]

theorem DispEntry.parse_bytes (e : DispEntry) : DispEntry.parse e.bytes = some e := by
  obtain ⟨valid, action⟩ := e
  cases valid <;> cases action <;> decide

/-- Of the 256 bytes those that are read are the ones a READ returns. -/
theorem DispEntry.bytes_of_parse_byte (x : Byte) (e : DispEntry) (h : DispEntry.parse [x] = some e) :
    e.bytes = [x] := by
  have all : ∀ x : Byte, ∀ e ∈ DispEntry.parse [x], e.bytes = [x] := by decide
  exact all x e h

theorem Edge.parse_eq_some (b : List Byte) (e : Edge) : Edge.parse b = some e ↔ byteAt b 0 = e.byte := by
  simp only [Edge.parse, Option.map_eq_some_iff, flagAt_eq_some]
  cases e <;> simp [flagByte, Edge.byte]

theorem eq_singleton_of_length (b : List Byte) (h : b.length = 1) : b = [byteAt b 0] := by
  obtain ⟨x, rfl⟩ := List.length_eq_one_iff.1 h
  rfl

/-- Settles O10: each table's entry is read back by `parse_bytes`, and what is read gives its bytes back by
`bytes_of_parse`; both come from one characterisation of each reading, `parse_eq_some`. -/
theorem tableEntriesReadBack : Obligations.TableEntriesReadBack := by
  refine ⟨fun r range => ⟨r.parse_bytes range, by simp [JobRec.bytes]⟩,
    fun r range => ⟨r.parse_bytes range, by simp [StationRec.bytes]⟩,
    fun r range => ⟨r.parse_bytes range, by simp [LoopRec.bytes]⟩,
    fun r range => ⟨r.parse_bytes range, by simp [LaneCfg.bytes]⟩,
    fun e range => ⟨e.parse_bytes range, by simp [SchedEntry.bytes]⟩,
    fun e => ⟨e.parse_bytes, by simp [OverrideEntry.bytes]⟩, fun e => ⟨e.parse_bytes, rfl⟩,
    fun e => (Edge.parse_eq_some _ e).2 rfl, rfl, rfl, ?_, ?_, ?_, ?_, ?_, ?_, ?_, ?_⟩
  · exact fun b r h => ⟨((JobRec.parse_eq_some b r).1 h).1, JobRec.bytes_of_parse b r h⟩
  · exact fun b r h => ⟨((StationRec.parse_eq_some b r).1 h).1, StationRec.bytes_of_parse b r h⟩
  · exact fun b r h => ⟨((LoopRec.parse_eq_some b r).1 h).1, LoopRec.bytes_of_parse b r h⟩
  · exact fun b r h => ⟨((LaneCfg.parse_eq_some b r).1 h).1, LaneCfg.bytes_of_parse b r h⟩
  · exact fun b e h => ⟨((SchedEntry.parse_eq_some b e).1 h).1, SchedEntry.bytes_of_parse b e h⟩
  · exact OverrideEntry.bytes_of_parse
  · intro b e h size
    rw [eq_singleton_of_length b size] at h ⊢
    exact DispEntry.bytes_of_parse_byte _ e h
  · intro b e h size
    rw [eq_singleton_of_length b size, (Edge.parse_eq_some b e).1 h]

end Sys2Proof.Machine
end

section
/-! Frames: their validity, what the link port does with them, what is written into them, and the commands that they
bring (R169 to R174, R179 to R181). -/

namespace Sys2Proof.Machine

/-! ## The check of a frame -/

/-- The CRC division of `n` bits is the division of one bit, `n` times (R179). -/
theorem crcBits_eq_iterate (n r : Nat) : crcBits n r = crcBit^[n] r := by
  induction n generalizing r with
  | zero => rfl
  | succ n ih => rw [crcBits, ih, Function.iterate_succ_apply]

theorem isCycle_iff (b : List Byte) : isCycle b = true ↔ byteAt b 0 = 0xA5#8 := by
  simp [isCycle]

theorem cycleShape_iff (b : List Byte) :
    cycleShape b = true ↔ byteAt b 0 = 0xA5#8 ∧ 1 ≤ (byteAt b 1).toNat ∧ (byteAt b 1).toNat ≤ 32
      ∧ b.length = 16 * (byteAt b 1).toNat + 6 := by
  simp only [cycleShape, isCycle, Bool.and_eq_true, beq_iff_eq, decide_eq_true_eq, and_assoc]
  rfl

theorem serviceShape_iff (b : List Byte) : serviceShape b = true ↔ byteAt b 0 = 0x5A#8 ∧ b.length = 140 := by
  simp [serviceShape, isService]

/-- R179: the CRC field read as a number, and its bytes. -/
theorem crcMatches_iff (b : List Byte) :
    crcMatches b = true ↔ 4 ≤ b.length ∧ beBytes 4 (crc32 (b.take (b.length - 4))) = b.drop (b.length - 4) := by
  simp only [crcMatches, frameBody, Bool.and_eq_true, decide_eq_true_eq, beq_iff_eq, and_congr_right_iff]
  intro long
  rw [drop_eq_field b (b.length - 4) 4 (by omega), List.drop_eq_nil_of_le (as := b) (by omega), List.append_nil]
  constructor
  · intro same
    rw [same]
  · intro same
    have read := congrArg (fieldAt · 0 4) same
    simp only [fieldAt_beBytes_self] at read
    have fits : crc32 (b.take (b.length - 4)) < 256 ^ 4 := crc32_lt _
    rwa [Nat.mod_eq_of_lt fits, Nat.mod_eq_of_lt (fieldAt_lt b _ 4)] at read

theorem frameValid_iff (b : List Byte) :
    frameValid b = true ↔ crcMatches b = true ∧ (cycleShape b = true ∨ serviceShape b = true) := by
  simp [frameValid]

theorem State.receive_valid (s : State) (b : List Byte) (ha : s.addressed = true) (hv : frameValid b = true) :
    s.receive b = s.takeValidFrame b := by
  rw [State.receive, if_pos ha, if_pos hv]

/-- Settles O5: the model's tests are those of R179 read as bytes, and the port's acts are its definitions. -/
theorem framesAreTaken : Obligations.FramesAreTaken := by
  refine ⟨fun b => ⟨?crc, isCycle_iff b, cycleShape_iff b, serviceShape_iff b, ?valid⟩, fun b s ha =>
    ⟨fun hv hc => ?cycle, fun hv hc => ?service, fun hb => ?bad⟩⟩
  case crc =>
    have byte (r : Nat) (x : Byte) : crcByte r x = crcBit^[8] (r ^^^ (x.toNat * 16777216)) := crcBits_eq_iterate 8 _
    have bit : crcBit = fun r => if r < 2147483648 then 2 * r else (2 * r % 4294967296) ^^^ 0x04C11DB7 := by
      funext r
      simp only [crcBit, Nat.mul_comm]
    have step : crcByte = fun r x => crcBit^[8] (r ^^^ (x.toNat * 16777216)) := funext fun r => funext (byte r)
    rw [crc32, step, bit]
  case valid => rw [frameValid_iff, crcMatches_iff, cycleShape_iff, serviceShape_iff, and_assoc]
  case cycle =>
    refine congrArg _ ((s.receive_valid b ha hv).trans ?_)
    rw [State.takeValidFrame, if_pos hc]
    rfl
  case service =>
    refine congrArg _ ((s.receive_valid b ha hv).trans ?_)
    rw [State.takeValidFrame, hc]
    rfl
  case bad =>
    refine congrArg Host.Outcome.next ?_
    rw [State.receive, if_pos ha, hb]
    rfl

/-! ## What is written into a frame -/

theorem byteAt_eq_getElem? (b : List Byte) (i : Nat) : byteAt b i = b[i]?.getD 0 := by
  rw [byteAt, List.getD_eq_getElem?_getD]

theorem slice_getElem? (off len : Nat) (b : List Byte) (i : Nat) :
    (slice off len b)[i]? = if i < len then b[off + i]? else none := by
  simp [slice, List.getElem?_take]

/-- A patch replaces the bytes from its place on and leaves the others. -/
theorem patch_getElem? (off : Nat) (new b : List Byte) (h : off ≤ b.length) (i : Nat) :
    (patch off new b)[i]? = if off ≤ i ∧ i < off + new.length then new[i - off]? else b[i]? := by
  have before : (b.take off).length = off := by simp [h]
  rw [patch, List.append_assoc]
  by_cases hi : i < off
  · rw [List.getElem?_append_left (by omega), List.getElem?_take, if_pos hi, if_neg (by omega)]
  · rw [List.getElem?_append_right (by omega), before]
    by_cases hn : i < off + new.length
    · rw [List.getElem?_append_left (by omega), if_pos (by omega)]
    · rw [List.getElem?_append_right (by omega), List.getElem?_drop, if_neg (by omega)]
      congr 1
      omega

/-- The new CRC leaves every byte before it. -/
theorem sealFrame_getElem? (b : List Byte) (i : Nat) (h : i < b.length - 4) : (sealFrame b)[i]? = b[i]? := by
  rw [sealFrame, frameBody, List.getElem?_append_left (by simp; omega), List.getElem?_take, if_pos h]

/-- R169 step 4: a frame with its CRC computed again passes the CRC check. -/
theorem crcMatches_sealFrame (b : List Byte) (h : 4 ≤ b.length) : crcMatches (sealFrame b) = true := by
  have bodyLength : (frameBody b).length = b.length - 4 := by simp [frameBody]
  refine (crcMatches_iff _).2 ⟨(sealFrame_length b h).symm ▸ h, ?_⟩
  rw [sealFrame_length b h, sealFrame, ← bodyLength, List.take_left, List.drop_left]

section

variable {b : List Byte}

theorem answered_length (r : Response) (shape : serviceShape b = true) (size : r.data.length = 64) :
    (patch 72 r.data b).length = 140
      ∧ (patch 7 [BitVec.ofNat 8 r.code.code] (patch 72 r.data b)).length = 140 := by
  obtain ⟨-, long⟩ := (serviceShape_iff b).1 shape
  have inner : (patch 72 r.data b).length = 140 := by rw [patch_length _ _ _ (by omega), long]
  exact ⟨inner, by rw [patch_length _ _ _ (by simp [inner]), inner]⟩

/-- A service frame with a response, byte by byte. -/
theorem writeResponse_getElem? (r : Response) (shape : serviceShape b = true) (size : r.data.length = 64) (i : Nat)
    (hi : i < 136) :
    (writeResponse r b)[i]? = if i = 7 then some (BitVec.ofNat 8 r.code.code)
      else if 72 ≤ i then r.data[i - 72]? else b[i]? := by
  obtain ⟨-, long⟩ := (serviceShape_iff b).1 shape
  obtain ⟨inner, outer⟩ := answered_length r shape size
  rw [writeResponse, if_pos shape, sealFrame_getElem? _ _ (by omega), patch_getElem? _ _ _ (by omega)]
  by_cases h7 : i = 7
  · subst h7
    rfl
  · rw [if_neg (by simp; omega), if_neg h7, patch_getElem? _ _ _ (by omega)]
    by_cases h72 : 72 ≤ i
    · rw [if_pos ⟨h72, by omega⟩, if_pos h72]
    · rw [if_neg (fun h => h72 h.1), if_neg h72]

theorem writeResponse_length (r : Response) (shape : serviceShape b = true) (size : r.data.length = 64) :
    (writeResponse r b).length = b.length := by
  obtain ⟨-, long⟩ := (serviceShape_iff b).1 shape
  obtain ⟨inner, outer⟩ := answered_length r shape size
  rw [writeResponse, if_pos shape, sealFrame_length _ (by omega), outer, long]

/-- A cycle frame with a slot, byte by byte. -/
theorem writeSlot_getElem? (place : Nat) (slot : List Byte) (shape : cycleShape b = true) (size : slot.length = 16)
    (inside : place < (byteAt b 1).toNat) (i : Nat) (hi : i < 2 + 16 * (byteAt b 1).toNat) :
    (writeSlot place slot b)[i]?
      = if 2 + 16 * place ≤ i ∧ i < 18 + 16 * place then slot[i - (2 + 16 * place)]? else b[i]? := by
  obtain ⟨-, -, -, long⟩ := (cycleShape_iff b).1 shape
  have patched : (patch (2 + 16 * place) slot b).length = b.length := patch_length _ _ _ (by omega)
  rw [writeSlot, if_pos ⟨shape, inside⟩, sealFrame_getElem? _ _ (by omega), patch_getElem? _ _ _ (by omega), size]
  congr 2
  simp only [eq_iff_iff]
  omega

theorem writeSlot_length (place : Nat) (slot : List Byte) (shape : cycleShape b = true) (size : slot.length = 16)
    (inside : place < (byteAt b 1).toNat) : (writeSlot place slot b).length = b.length := by
  obtain ⟨-, -, -, long⟩ := (cycleShape_iff b).1 shape
  have patched : (patch (2 + 16 * place) slot b).length = b.length := patch_length _ _ _ (by omega)
  rw [writeSlot, if_pos ⟨shape, inside⟩, sealFrame_length _ (by omega), patched]

end

/-- A sealed frame whose first two bytes and length fit a shape is valid. -/
theorem frameValid_of_altered (b f : List Byte) (crc : crcMatches f = true) (long : f.length = b.length)
    (kind : byteAt f 0 = byteAt b 0) (count : byteAt f 1 = byteAt b 1)
    (shape : cycleShape b = true ∨ serviceShape b = true) : frameValid f = true := by
  refine (frameValid_iff f).2 ⟨crc, ?_⟩
  rw [cycleShape_iff, serviceShape_iff] at shape ⊢
  rwa [kind, count, long]

theorem writeResponse_valid (code : RespCode) (data b : List Byte) (size : data.length = 64)
    (shape : serviceShape b = true) : frameValid (writeResponse { code, data } b) = true := by
  have byte (i : Nat) (hi : i < 72) (h7 : i ≠ 7) : byteAt (writeResponse { code, data } b) i = byteAt b i := by
    rw [byteAt_eq_getElem?, writeResponse_getElem? _ shape size i (by omega), if_neg h7, if_neg (by omega),
      byteAt_eq_getElem?]
  refine frameValid_of_altered b _ ?_ (writeResponse_length _ shape size) (byte 0 (by omega) (by omega))
    (byte 1 (by omega) (by omega)) (.inr shape)
  rw [writeResponse, if_pos shape]
  exact crcMatches_sealFrame _ (by rw [(answered_length { code, data } shape size).2]; omega)

theorem writeSlot_valid (place : Nat) (slot b : List Byte) (size : slot.length = 16) (shape : cycleShape b = true)
    (inside : place < (byteAt b 1).toNat) : frameValid (writeSlot place slot b) = true := by
  obtain ⟨-, -, -, long⟩ := (cycleShape_iff b).1 shape
  have byte (i : Nat) (hi : i < 2) : byteAt (writeSlot place slot b) i = byteAt b i := by
    rw [byteAt_eq_getElem?, writeSlot_getElem? _ _ shape size inside i (by omega), if_neg (by omega),
      byteAt_eq_getElem?]
  have patched : (patch (2 + 16 * place) slot b).length = b.length := patch_length _ _ _ (by omega)
  refine frameValid_of_altered b _ ?_ (writeSlot_length _ _ shape size inside) (byte 0 (by omega)) (byte 1 (by omega))
    (.inl shape)
  rw [writeSlot, if_pos ⟨shape, inside⟩]
  exact crcMatches_sealFrame _ (by omega)

/-- Settles O7: every byte of an altered frame is given by `writeResponse_getElem?` or `writeSlot_getElem?`. -/
theorem alteredFramesStayValid : Obligations.AlteredFramesStayValid := by
  refine ⟨fun s code data slot place => ⟨rfl, rfl, rfl⟩, fun r place slot b => ⟨fun other => ?_, fun other => ?_⟩,
    fun code data b size shape => ⟨writeResponse_valid code data b size shape,
      writeResponse_length _ shape size, ?_, ?_, fun i hi h7 => ?_⟩,
    fun place slot b size shape inside => ⟨writeSlot_valid place slot b size shape inside,
      writeSlot_length _ _ shape size inside, ?_, fun i hi outside => ?_⟩⟩
  · rw [writeResponse, other]
    rfl
  · rw [writeSlot, if_neg]
    rintro ⟨shape, inside⟩
    rcases other with none | beyond
    · rw [none] at shape
      cases shape
    · exact absurd inside (Nat.not_lt.2 beyond)
  · rw [byteAt_eq_getElem?, writeResponse_getElem? _ shape size 7 (by omega)]
    cases code <;> rfl
  · refine List.ext_getElem? fun i => ?_
    rw [slice_getElem?]
    split
    next hi => rw [writeResponse_getElem? _ shape size _ (by omega), if_neg (by omega), if_pos (by omega),
      Nat.add_sub_cancel_left]
    next hi => exact (List.getElem?_eq_none (by omega)).symm
  · rw [byteAt_eq_getElem?, writeResponse_getElem? _ shape size i (by omega), if_neg h7, if_neg (by omega),
      byteAt_eq_getElem?]
  · refine List.ext_getElem? fun i => ?_
    rw [slice_getElem?]
    split
    next hi => rw [writeSlot_getElem? _ _ shape size inside _ (by omega), if_pos (by omega), Nat.add_sub_cancel_left]
    next hi => exact (List.getElem?_eq_none (by omega)).symm
  · rw [byteAt_eq_getElem?, writeSlot_getElem? _ _ shape size inside i hi, if_neg (by omega), byteAt_eq_getElem?]

end Sys2Proof.Machine
end

section
/-! Reading slots and requests, and the commands that a frame brings (Tables 11-2, 11-3, 11-10 and 11-11). -/

namespace Sys2Proof.Machine

theorem beBytes_two (v : Nat) : beBytes 2 v = [BitVec.ofNat 8 (v / 256), BitVec.ofNat 8 v] := by
  simp [beBytes]

theorem beBytes_four (v : Nat) :
    beBytes 4 v = [BitVec.ofNat 8 (v / 16777216), BitVec.ofNat 8 (v / 65536), BitVec.ofNat 8 (v / 256),
      BitVec.ofNat 8 v] := by
  simp [beBytes]

/-- A position, serial or other word is read back from its four bytes. -/
theorem ofNat_fieldAt_word (p : Word) (rest : List Byte) :
    BitVec.ofNat 32 (fieldAt (beBytes 4 p.toNat ++ rest) 0 4) = p := by
  have fits : p.toNat % 256 ^ 4 = p.toNat := Nat.mod_eq_of_lt p.isLt
  rw [fieldAt_beBytes, fits, BitVec.ofNat_toNat, BitVec.setWidth_eq]

theorem ofNat_fieldAt_half (h : Half) (rest : List Byte) :
    BitVec.ofNat 16 (fieldAt (beBytes 2 h.toNat ++ rest) 0 2) = h := by
  have fits : h.toNat % 256 ^ 2 = h.toNat := Nat.mod_eq_of_lt h.isLt
  rw [fieldAt_beBytes, fits, BitVec.ofNat_toNat, BitVec.setWidth_eq]

/-- R180: the delivered slots, by their kinds. -/
theorem slotCommand_named (node : BitVec 6) (place : Nat) (n a b : Byte) (p : Word) (h : Half) (rest : List Byte) :
    slotCommand node place ([0x00#8, n] ++ rest)
        = (if n.toNat = node.toNat then some (.ownEmptySlotOffer (BitVec.ofNat 5 place)) else none)
    ∧ slotCommand node place ([0x01#8, n] ++ beBytes 4 p.toNat ++ rest) = some (.webpos p)
    ∧ slotCommand node place ([0x02#8, n, a, b] ++ beBytes 4 p.toNat ++ rest) = some (.markev a b p)
    ∧ slotCommand node place ([0x03#8, n, a, b] ++ beBytes 4 p.toNat ++ beBytes 2 h.toNat ++ rest)
        = some (.inspect a b p h)
    ∧ slotCommand node place ([0x04#8, n] ++ beBytes 4 p.toNat ++ rest) = some (.splice p)
    ∧ slotCommand node place ([0x05#8, n] ++ rest) = some .webbreak
    ∧ slotCommand node place ([0x06#8, n, a] ++ beBytes 2 h.toNat ++ rest) = some (.cutmeas a h)
    ∧ slotCommand node place ([0x07#8, n, a] ++ beBytes 2 h.toNat ++ rest) = some (.stkready a h)
    ∧ slotCommand node place ([0x08#8, n, a] ++ rest) = some (.stkfault a) := by
  refine ⟨rfl, ?_, ?_, ?_, ?_, rfl, ?_, ?_, rfl⟩
  · exact congrArg (some ∘ Instr.webpos) (by simpa using ofNat_fieldAt_word p rest)
  · exact congrArg (some ∘ Instr.markev a b) (by simpa using ofNat_fieldAt_word p rest)
  · have word := ofNat_fieldAt_word p (beBytes 2 h.toNat ++ rest)
    have half := ofNat_fieldAt_half h rest
    refine congrArg₂ (fun p h => some (Instr.inspect a b p h)) ?_ ?_
    · simpa using word
    · simpa using half
  · exact congrArg (some ∘ Instr.splice) (by simpa using ofNat_fieldAt_word p rest)
  · exact congrArg (some ∘ Instr.cutmeas a) (by simpa using ofNat_fieldAt_half h rest)
  · exact congrArg (some ∘ Instr.stkready a) (by simpa using ofNat_fieldAt_half h rest)

/-- A kind beyond those that Table 11-3 delivers to the part brings no command. -/
theorem slotCommand_other (node : BitVec 6) (place : Nat) (d : Byte) (rest : List Byte) (h : 9 ≤ d.toNat) :
    slotCommand node place (d :: rest) = none := by
  unfold slotCommand
  rw [byteAt_cons_zero]
  split
  case h_10 => rfl
  all_goals omega

/-- A service frame's bytes, from its fields (Table 11-2). -/
def serviceBytes (dest kind table code : Byte) (index : Half) (count : Byte) (data rest : List Byte) : List Byte :=
  [0x5A#8, dest, kind, table] ++ beBytes 2 index.toNat ++ [count, code] ++ data ++ rest

/-- Table 11-2: each field of a service frame is read from its place. -/
theorem serviceBytes_fields (dest kind table code : Byte) (index : Half) (count : Byte) (data rest : List Byte)
    (size : data.length = 64) :
    byteAt (serviceBytes dest kind table code index count data rest) 2 = kind
      ∧ byteAt (serviceBytes dest kind table code index count data rest) 3 = table
      ∧ BitVec.ofNat 16 (fieldAt (serviceBytes dest kind table code index count data rest) 4 2) = index
      ∧ byteAt (serviceBytes dest kind table code index count data rest) 6 = count
      ∧ slice 8 64 (serviceBytes dest kind table code index count data rest) = data := by
  refine ⟨by simp [serviceBytes], by simp [serviceBytes], ?_, by simp [serviceBytes], ?_⟩
  · simpa [serviceBytes] using ofNat_fieldAt_half index (count :: code :: (data ++ rest))
  · simp [serviceBytes, slice, beBytes, ← size]

/-- The kinds that Table 11-10 names are those that the reading of a request tells apart. -/
theorem requestCommand_unknown (b : List Byte) (other : byteAt b 2 ∉ [0x01#8, 0x02#8, 0x03#8, 0x04#8, 0x05#8, 0x06#8,
    0x07#8, 0x10#8, 0x11#8, 0x12#8, 0x13#8, 0x14#8, 0x15#8, 0x1F#8]) :
    requestCommand b = .unknownRequestKind (byteAt b 2) := by
  simp only [List.mem_cons, List.not_mem_nil, or_false, BitVec.toNat_eq, BitVec.toNat_ofNat] at other
  unfold requestCommand
  dsimp only
  split
  case h_15 => rfl
  all_goals omega

/-- Table 11-11: an identifier outside 1 to 8 names no table. -/
theorem writeCommand_noTable (table : Byte) (index : Half) (count : Byte) (data : List Byte)
    (h : table.toNat = 0 ∨ 8 < table.toNat) :
    writeCommand table index count data = .writeNoTable table index count data := by
  unfold writeCommand
  split
  case h_9 => rfl
  all_goals omega

/-- Settles O8: slots by `slotCommand_named`, requests by the fields of a service frame and the match on the kind. -/
theorem slotsAndRequestsAreRead : Obligations.SlotsAndRequestsAreRead := by
  refine ⟨fun v => ⟨beBytes_one v, beBytes_two v, beBytes_four v⟩, fun v => ⟨?_, ?_⟩,
    fun node place n a b c d p h rest => ?_, fun dest table code index count data rest size => ?_⟩
  · rw [intBytes, BitVec.toNat_ofInt]
    rfl
  · rw [intBytes, BitVec.toNat_ofInt]
    rfl
  · obtain ⟨h0, h1, h2, h3, h4, h5, h6, h7, h8⟩ := slotCommand_named node place n a b p h rest
    exact ⟨h0, h1, h2, h3, h4, h5, h6, h7, h8, slotCommand_other node place d (c :: rest)⟩
  · intro request
    have reads (kind : Byte) := serviceBytes_fields dest kind table code index count data rest size
    have made (kind : Byte) : request kind
        = requestCommand (serviceBytes dest kind table code index count data rest) := rfl
    have written (id : Byte) (h : table = id) : request 0x02#8 = writeCommand id index count data := by
      subst h
      simp [made, requestCommand, reads]
    refine ⟨?_, fun h => written 1#8 h, fun h => written 2#8 h, fun h => written 3#8 h, fun h => written 4#8 h,
      fun h => written 5#8 h, fun h => written 6#8 h, fun h => written 7#8 h, fun h => written 8#8 h,
      fun h => (written table rfl).trans (writeCommand_noTable table index count data h), ?_, ?_, ?_, ?_, ?_, ?_, ?_, ?_,
      ?_, ?_, ?_, ?_, fun kind other => ?_⟩
    case refine_14 =>
      obtain ⟨isKind, -⟩ := reads kind
      rw [made, requestCommand_unknown _ (by rwa [isKind]), isKind]
    all_goals simp [made, requestCommand, reads]

/-! ## The commands of a frame -/

theorem slotCommand_wellFormed (node : BitVec 6) (place : Nat) (slot : List Byte) (c : Instr)
    (h : slotCommand node place slot = some c) : WellFormed c = true := by
  unfold slotCommand at h
  split at h
  next => split at h <;> cases h; rfl
  all_goals cases h
  all_goals rfl

theorem namesTable_eq_false_iff (table : Byte) : namesTable table = false ↔ table.toNat = 0 ∨ 8 < table.toNat := by
  simp [namesTable]
  omega

theorem writeCommand_wellFormed (table : Byte) (index : Half) (count : Byte) (data : List Byte)
    (fits : dataAreaFits data = true) : WellFormed (writeCommand table index count data) = true := by
  by_cases named : namesTable table = false
  · rw [writeCommand_noTable _ _ _ _ ((namesTable_eq_false_iff table).1 named)]
    simp [WellFormed, named, fits]
  · rw [namesTable_eq_false_iff] at named
    have one : table.toNat = 1 ∨ table.toNat = 2 ∨ table.toNat = 3 ∨ table.toNat = 4 ∨ table.toNat = 5
        ∨ table.toNat = 6 ∨ table.toNat = 7 ∨ table.toNat = 8 := by omega
    rcases one with h | h | h | h | h | h | h | h
    all_goals
      simp only [writeCommand, h]
      exact fits

/-- A request of a whole service frame is well formed: its data area has 64 bytes, and its kind is unknown only
where Table 11-10 does not name it. -/
theorem requestCommand_wellFormed (b : List Byte) (long : b.length = 140) : WellFormed (requestCommand b) = true := by
  have fits : dataAreaFits (slice 8 64 b) = true := by
    simp [dataAreaFits, slice, long]
  by_cases other : byteAt b 2 ∈ [0x01#8, 0x02#8, 0x03#8, 0x04#8, 0x05#8, 0x06#8, 0x07#8, 0x10#8, 0x11#8, 0x12#8,
      0x13#8, 0x14#8, 0x15#8, 0x1F#8]
  · simp only [List.mem_cons, List.not_mem_nil, or_false] at other
    rcases other with h | h | h | h | h | h | h | h | h | h | h | h | h | h
    case inr.inl => simpa [requestCommand, h] using writeCommand_wellFormed _ _ _ _ fits
    all_goals simp [requestCommand, h, WellFormed]
  · rw [requestCommand_unknown b other]
    revert other
    generalize byteAt b 2 = kind
    revert kind
    decide

theorem passageCommands_wellFormed (node : BitVec 6) (b : List Byte) (hv : frameValid b = true) :
    ∀ c ∈ passageCommands node b, WellFormed c = true := by
  intro c hc
  unfold passageCommands at hc
  split at hc
  next cycle =>
    rcases List.mem_append.1 hc with expiry | slot
    · obtain ⟨k, -, rfl⟩ := List.mem_map.1 expiry
      rfl
    · obtain ⟨⟨i, bytes⟩, -, read⟩ := List.mem_filterMap.1 slot
      exact slotCommand_wellFormed node i bytes c read
  next other =>
    split at hc
    · obtain rfl := List.mem_singleton.1 hc
      obtain ⟨-, cycle | service⟩ := (frameValid_iff b).1 hv
      · exact absurd ((isCycle_iff b).2 ((cycleShape_iff b).1 cycle).1) other
      · exact requestCommand_wellFormed b ((serviceShape_iff b).1 service).2
    · cases hc

theorem commandsOf_valid (node : BitVec 6) (b : List Byte) (hv : frameValid b = true) :
    commandsOf node b = .validFrame b :: (if addressInUse node then passageCommands node b else []) :=
  if_pos hv

/-- Settles O9: `commandsOf` case by case, each command well formed by the reading that made it. -/
theorem framesBringWellFormedCommands : Obligations.FramesBringWellFormedCommands := by
  intro node b inUse
  have address : inUse = addressInUse node := by
    rw [Bool.eq_iff_iff, addressInUse_iff]
    exact decide_eq_true_iff
  have bad (hb : frameValid b = false) : commandsOf node b = [.badFrame b] := if_neg (by simp [hb])
  refine ⟨?wellFormed, bad, fun hv idle => ?_, fun hv used cycle => ?_, fun hv used other => ?_⟩
  case wellFormed =>
    intro c hc
    cases hv : frameValid b with
    | false =>
      rw [bad hv, List.mem_singleton] at hc
      subst hc
      simp [WellFormed, hv]
    | true =>
      rw [commandsOf_valid node b hv] at hc
      rcases List.mem_cons.1 hc with rfl | behind
      · exact hv
      · split at behind
        · exact passageCommands_wellFormed node b hv c behind
        · cases behind
  · rw [commandsOf_valid node b hv, ← address, idle]
    rfl
  · rw [commandsOf_valid node b hv, ← address, used, if_pos rfl, passageCommands, if_pos cycle, frameSlots,
      List.filterMap_map]
    rfl
  · rw [commandsOf_valid node b hv, ← address, used, if_pos rfl, passageCommands, other]
    rfl

end Sys2Proof.Machine
end

section
/-! Table access: the tests of a WRITE in their order, what an accepted WRITE stores, and READ (R175). -/

namespace Sys2Proof.Machine

/-! ## The tests 4 to 6 of R175 -/

theorem accessError_badLength (entries size index count : Nat) (h : count = 0 ∨ 64 < count * size) :
    accessError entries size index count = some .badLength :=
  if_pos h

theorem accessError_badIndex (entries size index count : Nat) (one : 1 ≤ count) (fits : count * size ≤ 64)
    (outside : entries < index + count) : accessError entries size index count = some .badIndex := by
  rw [accessError, if_neg (by omega), if_pos outside]

theorem accessError_none (entries size index count : Nat) (one : 1 ≤ count) (fits : count * size ≤ 64)
    (inside : index + count ≤ entries) : accessError entries size index count = none := by
  rw [accessError, if_neg (by omega), if_neg (by omega)]

section

variable {α : Type} (parse : List Byte → Option α)

/-- Every entry is read, or one is not. -/
theorem parseAll_eq_some (bs : List (List Byte)) (es : List α) :
    parseAll parse bs = some es ↔ bs.map parse = es.map some := by
  induction bs generalizing es with
  | nil => cases es <;> simp [parseAll]
  | cons b bs ih =>
    cases hb : parse b with
    | none => cases es <;> simp [parseAll, hb]
    | some x =>
      cases hs : parseAll parse bs with
      | none =>
        have none_reads (ys : List α) : bs.map parse ≠ ys.map some := fun e => by
          rw [(ih ys).2 e] at hs
          cases hs
        cases es <;> simp [parseAll, hb, hs, none_reads]
      | some xs =>
        have read := (ih xs).1 hs
        have apart (ys : List α) : xs.map some = ys.map some ↔ xs = ys :=
          (List.map_injective_iff.2 (Option.some_injective α)).eq_iff
        cases es <;> simp [parseAll, hb, hs, read, apart]

theorem parseAll_eq_none (bs : List (List Byte)) (h : ∃ b ∈ bs, parse b = none) : parseAll parse bs = none := by
  obtain ⟨b, hb, unread⟩ := h
  cases read : parseAll parse bs with
  | none => rfl
  | some es =>
    have member : parse b ∈ es.map some := (parseAll_eq_some parse bs es).1 read ▸ List.mem_map_of_mem hb
    rw [unread] at member
    simp at member

variable (entries size : Nat) (index : Half) (count : Byte) (data : List Byte)

theorem writeEntries_badLength (h : count.toNat = 0 ∨ 64 < count.toNat * size) :
    writeEntries entries size parse index count data = .error .badLength := by
  rw [writeEntries, accessError_badLength _ _ _ _ h]

theorem writeEntries_badIndex (one : 1 ≤ count.toNat) (fits : count.toNat * size ≤ 64)
    (outside : entries < index.toNat + count.toNat) :
    writeEntries entries size parse index count data = .error .badIndex := by
  rw [writeEntries, accessError_badIndex _ _ _ _ one fits outside]

theorem writeEntries_badValue (one : 1 ≤ count.toNat) (fits : count.toNat * size ≤ 64)
    (inside : index.toNat + count.toNat ≤ entries)
    (unread : ∃ i, i < count.toNat ∧ parse (slice (i * size) size data) = none) :
    writeEntries entries size parse index count data = .error .badValue := by
  obtain ⟨i, hi, none_reads⟩ := unread
  have one_unread : parseAll parse (carried size count.toNat data) = none :=
    parseAll_eq_none parse _ ⟨_, List.mem_map.2 ⟨i, List.mem_range.2 hi, rfl⟩, none_reads⟩
  rw [writeEntries, accessError_none _ _ _ _ one fits inside, one_unread]

/-- Entries that pass every test are read in index order. -/
theorem writeEntries_ok (one : 1 ≤ count.toNat) (fits : count.toNat * size ≤ 64)
    (inside : index.toNat + count.toNat ≤ entries)
    (read : ∀ i, i < count.toNat → (parse (slice (i * size) size data)).isSome = true) :
    ∃ es : List α, writeEntries entries size parse index count data = .ok es ∧ es.length = count.toNat
      ∧ ∀ i (h : i < es.length), parse (slice (i * size) size data) = some es[i] := by
  let es : List α := List.ofFn fun i : Fin count.toNat => (parse (slice (i.val * size) size data)).get (read i i.isLt)
  have length : es.length = count.toNat := List.length_ofFn
  have entry (i : Nat) (h : i < es.length) : parse (slice (i * size) size data) = some es[i] := by
    simp [es]
  have all : parseAll parse (carried size count.toNat data) = some es := by
    refine (parseAll_eq_some parse _ es).2 (List.ext_getElem (by simp [carried, length]) fun i h₁ h₂ => ?_)
    simpa [carried] using entry i (by simpa using h₂)
  exact ⟨es, by rw [writeEntries, accessError_none _ _ _ _ one fits inside, all], length, entry⟩

end

/-! ## Storing -/

theorem storeFrom_getElem {α : Type} {n : Nat} (v : Vector α n) (index : Nat) (es : List α) (i : Nat) (hi : i < n) :
    (storeFrom v index es)[i]
      = if h : index ≤ i ∧ i < index + es.length then es[i - index]'(by omega) else v[i] := by
  induction es generalizing v index with
  | nil =>
    rw [dif_neg (by simp)]
    rfl
  | cons x xs ih =>
    rw [storeFrom, ih]
    by_cases first : i = index
    · subst first
      simp
    · by_cases later : index + 1 ≤ i ∧ i < index + 1 + xs.length
      · rw [dif_pos later, dif_pos (by simp; omega), List.getElem_cons]
        simp [show i - index ≠ 0 by omega, Nat.sub_sub]
      · rw [dif_neg later, dif_neg (by simp; omega), Vector.getElem_setIfInBounds, if_neg (Ne.symm first)]

/-- The table after an accepted WRITE: the entries named hold what was read, the others what they held. -/
theorem storeFrom_entries {α : Type} {n : Nat} {parse : List Byte → Option α} {size index count : Nat}
    {data : List Byte} {es : List α} (v : Vector α n) (length : es.length = count)
    (entry : ∀ i (h : i < es.length), parse (slice (i * size) size data) = some es[i]) (i : Fin n) :
    if index ≤ i.val ∧ i.val < index + count
      then parse (slice ((i.val - index) * size) size data) = some (storeFrom v index es)[i.val]
      else (storeFrom v index es)[i.val] = v[i.val] := by
  rw [storeFrom_getElem v index es i.val i.isLt]
  split
  next named =>
    rw [dif_pos (length ▸ named)]
    exact entry (i.val - index) (by omega)
  next other => rw [dif_neg (length ▸ other)]

/-! ## Accepted WRITEs -/

section

variable (index : Half) (count : Byte) (data : List Byte) (s : State)

theorem State.inConfig_of_config (f : State → State) (hc : s.job.state = .config) : s.inConfig f = f s :=
  if_pos hc

theorem State.inConfig_refused (f : State → State) (hc : s.job.state ≠ .config) : s.inConfig f = s.reply .wrongState :=
  if_neg hc

theorem headEntry_ok {α : Type} {checked : Except RespCode (List α)} {x : α} (h : checked = .ok [x]) :
    headEntry checked = .ok x := by
  rw [h, headEntry]

theorem headEntry_error {α : Type} {checked : Except RespCode (List α)} {code : RespCode}
    (h : checked = .error code) : headEntry checked = .error code := by
  rw [h, headEntry]

theorem State.finishWrite_ok {α : Type} {checked : Except RespCode α} {x : α} (h : checked = .ok x)
    (store : α → State → State) : s.finishWrite checked store = (store x s).reply .ok := by
  rw [h, State.finishWrite]

theorem State.finishWrite_error {α : Type} {checked : Except RespCode α} {code : RespCode} (h : checked = .error code)
    (store : α → State → State) : s.finishWrite checked store = s.reply code := by
  rw [h, State.finishWrite]

/-- The one entry of a table of one. -/
theorem writeEntries_single {α : Type} (parse : List Byte → Option α) (size : Nat) (fits : size ≤ 64) (r : α)
    (h : parse (slice 0 size data) = some r) : writeEntries 1 size parse 0#16 1#8 data = .ok [r] := by
  have all : parseAll parse (carried size 1 data) = some [r] :=
    (parseAll_eq_some parse _ _).2 (by simp [carried, h])
  have accepted : accessError 1 size 0 1 = none := accessError_none 1 size 0 1 le_rfl (by omega) le_rfl
  rw [writeEntries]
  simp only [BitVec.toNat_ofNat, Nat.zero_mod, Nat.one_mod_two_pow_eq_one.2 (show 0 < 8 by decide)]
  rw [accepted, all]

/-- R82: a limit that the job state allows passes the check of the validated limit. -/
theorem State.checkLimit_ok {checked : Except RespCode LoopRec} {r : LoopRec} (h : checked = .ok r)
    (allowed : s.job.state ≠ .config → r.limit ≤ s.job.validated) : s.checkLimit checked = .ok r := by
  rw [h, State.checkLimit, if_neg]
  rintro ⟨armed, above⟩
  exact absurd (allowed armed) (Nat.not_le.2 above)

theorem State.checkLimit_error {checked : Except RespCode LoopRec} {code : RespCode} (h : checked = .error code) :
    s.checkLimit checked = .error code := by
  rw [h, State.checkLimit]

end

/-- Settles O12: the single entry is read and stored whole. -/
theorem singleWritesReplaceTheRecord : Obligations.SingleWritesReplaceTheRecord := by
  refine fun data s ha => ⟨fun r hc read => ?_, fun r hc read => ?_, fun r read allowed => ?_⟩
  · change execWriteJob 0#16 1#8 data s = _
    rw [execWriteJob, s.ifAddressed_addressed _ ha, s.inConfig_of_config _ hc,
      s.finishWrite_ok (headEntry_ok (writeEntries_single data _ 24 (by decide) r read))]
    rfl
  · change execWriteStation 0#16 1#8 data s = _
    rw [execWriteStation, s.ifAddressed_addressed _ ha, s.inConfig_of_config _ hc,
      s.finishWrite_ok (headEntry_ok (writeEntries_single data _ 48 (by decide) r read))]
    rfl
  · change execWriteLoop 0#16 1#8 data s = _
    rw [execWriteLoop, s.ifAddressed_addressed _ ha,
      s.finishWrite_ok (s.checkLimit_ok (headEntry_ok (writeEntries_single data _ 12 (by decide) r read)) allowed)]
    rfl

/-- Settles O13: the entries carried are read (`writeEntries_ok`) and stored at their places (`storeFrom_entries`). -/
theorem tableWritesReplaceTheEntries : Obligations.TableWritesReplaceTheEntries := by
  refine fun index count data s ha one => ⟨fun hc inside read => ?sensor, fun inside fits read => ?lane,
    fun hc aligned whole inside read => ?disp, fun inside fits read => ?override, fun inside read => ?sched⟩
  case sensor =>
    obtain ⟨es, accepted, length, entry⟩ := writeEntries_ok Edge.parse 2 1 index count data one (by omega) inside
      (by simpa using read)
    refine ⟨storeFrom s.reg.edges index.toNat es, ?_, fun i => ?_⟩
    · change execWriteSensor index count data s = _
      rw [execWriteSensor, s.ifAddressed_addressed _ ha, s.inConfig_of_config _ hc, s.finishWrite_ok accepted]
      rfl
    · simpa using storeFrom_entries (index := index.toNat) s.reg.edges length entry i
  case lane =>
    obtain ⟨es, accepted, length, entry⟩ := writeEntries_ok LaneCfg.parse 8 12 index count data one fits inside read
    refine ⟨storeFrom s.stk.cfg index.toNat es, ?_, storeFrom_entries s.stk.cfg length entry⟩
    change execWriteLane index count data s = _
    rw [execWriteLane, s.ifAddressed_addressed _ ha, s.finishWrite_ok accepted]
    rfl
  case disp =>
    have few : count.toNat ≤ 8 := by rcases whole with rfl | rfl <;> decide
    obtain ⟨es, accepted, length, entry⟩ := writeEntries_ok DispEntry.parse 128 1 index count data one (by omega) inside
      (by simpa using read)
    refine ⟨storeFrom s.disp.disp index.toNat es, ?_, fun i => ?_⟩
    · change execWriteDisp index count data s = _
      rw [execWriteDisp, s.ifAddressed_addressed _ ha, if_neg (fun h => hc.elim h.1 h.2),
        if_neg (fun h => h.elim (· aligned) fun h => whole.elim h.1 h.2), s.finishWrite_ok accepted]
      rfl
    · simpa using storeFrom_entries (index := index.toNat) s.disp.disp length entry i
  case override =>
    obtain ⟨es, accepted, length, entry⟩ :=
      writeEntries_ok OverrideEntry.parse 32 12 index count data one fits inside read
    refine ⟨storeFrom s.disp.overrides index.toNat es, ?_, storeFrom_entries s.disp.overrides length entry⟩
    change execWriteOverride index count data s = _
    rw [execWriteOverride, s.ifAddressed_addressed _ ha, s.finishWrite_ok accepted]
    rfl
  case sched =>
    obtain ⟨es, accepted, length, entry⟩ :=
      writeEntries_ok SchedEntry.parse 3 2 index count data one (by omega) inside read
    refine ⟨storeFrom s.sched.table index.toNat es, ?_, storeFrom_entries s.sched.table length entry⟩
    change execWriteSched index count data s = _
    rw [execWriteSched, s.ifAddressed_addressed _ ha, s.finishWrite_ok accepted]
    rfl

/-! ## Refused WRITEs -/

section

variable {index : Half} {count : Byte} {data : List Byte} {s : State} (ha : s.addressed = true) {code : RespCode}

include ha

theorem exec_writeJob_refused (hc : s.job.state = .config)
    (h : writeEntries 1 24 JobRec.parse index count data = .error code) :
    exec (.writeJob index count data) s = .next (s.reply code) := by
  change execWriteJob index count data s = _
  rw [execWriteJob, s.ifAddressed_addressed _ ha, s.inConfig_of_config _ hc, s.finishWrite_error (headEntry_error h)]

theorem exec_writeStation_refused (hc : s.job.state = .config)
    (h : writeEntries 1 48 StationRec.parse index count data = .error code) :
    exec (.writeStation index count data) s = .next (s.reply code) := by
  change execWriteStation index count data s = _
  rw [execWriteStation, s.ifAddressed_addressed _ ha, s.inConfig_of_config _ hc,
    s.finishWrite_error (headEntry_error h)]

theorem exec_writeLoop_refused
    (h : s.checkLimit (headEntry (writeEntries 1 12 LoopRec.parse index count data)) = .error code) :
    exec (.writeLoop index count data) s = .next (s.reply code) := by
  change execWriteLoop index count data s = _
  rw [execWriteLoop, s.ifAddressed_addressed _ ha, s.finishWrite_error h]

theorem exec_writeSensor_refused (hc : s.job.state = .config)
    (h : writeEntries 2 1 Edge.parse index count data = .error code) :
    exec (.writeSensor index count data) s = .next (s.reply code) := by
  change execWriteSensor index count data s = _
  rw [execWriteSensor, s.ifAddressed_addressed _ ha, s.inConfig_of_config _ hc, s.finishWrite_error h]

theorem exec_writeLane_refused (h : writeEntries 8 12 LaneCfg.parse index count data = .error code) :
    exec (.writeLane index count data) s = .next (s.reply code) := by
  change execWriteLane index count data s = _
  rw [execWriteLane, s.ifAddressed_addressed _ ha, s.finishWrite_error h]

theorem exec_writeDisp_refused (hc : s.job.state = .config ∨ s.job.state = .armed)
    (aligned : ¬(index.toNat % 4 ≠ 0 ∨ (count ≠ 4#8 ∧ count ≠ 8#8)))
    (h : writeEntries 128 1 DispEntry.parse index count data = .error code) :
    exec (.writeDisp index count data) s = .next (s.reply code) := by
  change execWriteDisp index count data s = _
  rw [execWriteDisp, s.ifAddressed_addressed _ ha, if_neg (fun h => hc.elim h.1 h.2), if_neg aligned,
    s.finishWrite_error h]

theorem exec_writeOverride_refused (h : writeEntries 32 12 OverrideEntry.parse index count data = .error code) :
    exec (.writeOverride index count data) s = .next (s.reply code) := by
  change execWriteOverride index count data s = _
  rw [execWriteOverride, s.ifAddressed_addressed _ ha, s.finishWrite_error h]

theorem exec_writeSched_refused (h : writeEntries 3 2 SchedEntry.parse index count data = .error code) :
    exec (.writeSched index count data) s = .next (s.reply code) := by
  change execWriteSched index count data s = _
  rw [execWriteSched, s.ifAddressed_addressed _ ha, s.finishWrite_error h]

end

/-- What tests 4 to 6 refuse, as one statement of a request: the code of the first of them that fails. -/
def State.RefusesEntries (s : State) (request : Instr) (entries size : Nat) (index : Half) (count : Byte)
    (untaken : Nat → Prop) : Prop :=
  ((count.toNat = 0 ∨ 64 < count.toNat * size) → exec request s = .next (s.reply .badLength))
    ∧ (1 ≤ count.toNat → count.toNat * size ≤ 64 → entries < index.toNat + count.toNat →
        exec request s = .next (s.reply .badIndex))
    ∧ (1 ≤ count.toNat → count.toNat * size ≤ 64 → index.toNat + count.toNat ≤ entries →
        (∃ i, i < count.toNat ∧ untaken i) → exec request s = .next (s.reply .badValue))

/-- A request that hands on the code of `writeEntries` refuses as tests 4 to 6 say. -/
theorem State.refusesEntries_of {α : Type} {s : State} {request : Instr} {entries size : Nat}
    {parse : List Byte → Option α} {index : Half} {count : Byte} {data : List Byte} {untaken : Nat → Prop}
    (hands : ∀ code, writeEntries entries size parse index count data = .error code →
      exec request s = .next (s.reply code))
    (unread : ∀ i, untaken i → parse (slice (i * size) size data) = none) :
    s.RefusesEntries request entries size index count untaken := by
  refine ⟨fun short => hands _ (writeEntries_badLength _ _ _ _ _ _ short),
    fun one fits outside => hands _ (writeEntries_badIndex _ _ _ _ _ _ one fits outside),
    fun one fits inside found => hands _ (writeEntries_badValue _ _ _ _ _ _ one fits inside ?_)⟩
  obtain ⟨i, hi, bad⟩ := found
  exact ⟨i, hi, unread i bad⟩

theorem isSome_eq_false_iff_none {α : Type} {o : Option α} (h : o.isSome = false) : o = none := by
  cases o with
  | none => rfl
  | some x => cases h

/-- R82, R175: a LOOP entry that is out of range, or above the validated limit outside CONFIG, gives BAD_VALUE. -/
theorem checkLimit_badValue (s : State) (data : List Byte) (index : Half) (count : Byte) (one : 1 ≤ count.toNat)
    (inside : index.toNat + count.toNat ≤ 1)
    (bad : s.entryTaken 3#8 (slice 0 12 data) = false) :
    s.checkLimit (headEntry (writeEntries 1 12 LoopRec.parse index count data)) = .error .badValue := by
  obtain rfl : index = 0#16 := BitVec.eq_of_toNat_eq (by simp; omega)
  obtain rfl : count = 1#8 := BitVec.eq_of_toNat_eq (by simp; omega)
  cases read : LoopRec.parse (slice 0 12 data) with
  | none =>
    exact s.checkLimit_error (headEntry_error (writeEntries_badValue _ _ _ _ _ _ (by decide) (by decide) (by decide)
      ⟨0, by decide, read⟩))
  | some r =>
    rw [headEntry_ok (writeEntries_single data _ 12 (by decide) r read), State.checkLimit, if_pos]
    simpa [State.entryTaken, read] using bad

theorem loop_refusesEntries (s : State) (ha : s.addressed = true) (index : Half) (count : Byte) (data : List Byte) :
    s.RefusesEntries (.writeLoop index count data) 1 12 index count
      fun i => s.entryTaken 3#8 (slice (i * 12) 12 data) = false := by
  have hands (code : RespCode) (h : writeEntries 1 12 LoopRec.parse index count data = .error code) :=
    exec_writeLoop_refused ha (s.checkLimit_error (headEntry_error h))
  refine ⟨fun short => hands _ (writeEntries_badLength _ _ _ _ _ _ short),
    fun one fits outside => hands _ (writeEntries_badIndex _ _ _ _ _ _ one fits outside),
    fun one fits inside found => exec_writeLoop_refused ha (checkLimit_badValue s data index count one inside ?_)⟩
  obtain ⟨i, hi, bad⟩ := found
  obtain rfl : i = 0 := by omega
  simpa using bad

/-- The tests of R175 in their order, for a request of a table of so many entries. -/
def State.RefusedInOrder (s : State) (request : Instr) (table : Byte) (index : Half) (count : Byte) (data : List Byte)
    (entries size : Nat) : Prop :=
  (s.writable table = false → exec request s = .next (s.reply .wrongState))
    ∧ (s.writable table = true → dispMisaligned table index count = true → exec request s = .next (s.reply .badAlign))
    ∧ (s.writable table = true → dispMisaligned table index count = false →
        s.RefusesEntries request entries size index count
          fun i => s.entryTaken table (slice (i * size) size data) = false)

section

variable {index : Half} {count : Byte} {data : List Byte} {s : State} (ha : s.addressed = true)

include ha

theorem refusedInOrder_job : s.RefusedInOrder (.writeJob index count data) 1#8 index count data 1 24 := by
  refine ⟨fun shut => ?_, nofun, fun hw _ => ?_⟩
  · change execWriteJob index count data s = _
    rw [execWriteJob, s.ifAddressed_addressed _ ha, s.inConfig_refused _ (by simpa [State.writable] using shut)]
  · exact State.refusesEntries_of (fun _ => exec_writeJob_refused ha (by simpa [State.writable] using hw))
      fun _ => isSome_eq_false_iff_none

theorem refusedInOrder_station : s.RefusedInOrder (.writeStation index count data) 2#8 index count data 1 48 := by
  refine ⟨fun shut => ?_, nofun, fun hw _ => ?_⟩
  · change execWriteStation index count data s = _
    rw [execWriteStation, s.ifAddressed_addressed _ ha, s.inConfig_refused _ (by simpa [State.writable] using shut)]
  · exact State.refusesEntries_of (fun _ => exec_writeStation_refused ha (by simpa [State.writable] using hw))
      fun _ => isSome_eq_false_iff_none

theorem refusedInOrder_loop : s.RefusedInOrder (.writeLoop index count data) 3#8 index count data 1 12 :=
  ⟨nofun, nofun, fun _ _ => loop_refusesEntries s ha index count data⟩

theorem refusedInOrder_sensor : s.RefusedInOrder (.writeSensor index count data) 4#8 index count data 2 1 := by
  refine ⟨fun shut => ?_, nofun, fun hw _ => ?_⟩
  · change execWriteSensor index count data s = _
    rw [execWriteSensor, s.ifAddressed_addressed _ ha, s.inConfig_refused _ (by simpa [State.writable] using shut)]
  · exact State.refusesEntries_of (fun _ => exec_writeSensor_refused ha (by simpa [State.writable] using hw))
      fun _ => isSome_eq_false_iff_none

theorem refusedInOrder_lane : s.RefusedInOrder (.writeLane index count data) 5#8 index count data 8 12 :=
  ⟨nofun, nofun, fun _ _ => State.refusesEntries_of (fun _ => exec_writeLane_refused ha)
    fun _ => isSome_eq_false_iff_none⟩

theorem refusedInOrder_disp : s.RefusedInOrder (.writeDisp index count data) 6#8 index count data 128 1 := by
  have writable : s.writable 6#8 = true ↔ s.job.state = .config ∨ s.job.state = .armed := by simp [State.writable]
  have misaligned : dispMisaligned 6#8 index count = true ↔ index.toNat % 4 ≠ 0 ∨ (count ≠ 4#8 ∧ count ≠ 8#8) := by
    simp [dispMisaligned]
  refine ⟨fun shut => ?_, fun hw bad => ?_, fun hw aligned => ?_⟩
  · have other := (not_congr writable).1 (by simp [shut])
    change execWriteDisp index count data s = _
    rw [execWriteDisp, s.ifAddressed_addressed _ ha, if_pos (not_or.1 other)]
  · have taken := writable.1 hw
    change execWriteDisp index count data s = _
    rw [execWriteDisp, s.ifAddressed_addressed _ ha, if_neg (fun h => taken.elim h.1 h.2), if_pos (misaligned.1 bad)]
  · exact State.refusesEntries_of
      (fun _ => exec_writeDisp_refused ha (writable.1 hw) ((not_congr misaligned).1 (by simp [aligned])))
      fun _ => isSome_eq_false_iff_none

theorem refusedInOrder_override : s.RefusedInOrder (.writeOverride index count data) 7#8 index count data 32 12 :=
  ⟨nofun, nofun, fun _ _ => State.refusesEntries_of (fun _ => exec_writeOverride_refused ha)
    fun _ => isSome_eq_false_iff_none⟩

theorem refusedInOrder_sched : s.RefusedInOrder (.writeSched index count data) 8#8 index count data 3 2 :=
  ⟨nofun, nofun, fun _ _ => State.refusesEntries_of (fun _ => exec_writeSched_refused ha)
    fun _ => isSome_eq_false_iff_none⟩

end

/-! ## The tables by their identifiers -/

theorem tableEntries_none (s : State) (table : Byte) (h : table.toNat = 0 ∨ 8 < table.toNat) :
    s.tableEntries table = none := by
  unfold State.tableEntries
  split
  case h_9 => rfl
  all_goals omega

theorem table_cases (s : State) (table : Byte) (named : s.tableEntries table ≠ none) :
    table = 1#8 ∨ table = 2#8 ∨ table = 3#8 ∨ table = 4#8 ∨ table = 5#8 ∨ table = 6#8 ∨ table = 7#8 ∨ table = 8#8 := by
  have one : ¬(table.toNat = 0 ∨ 8 < table.toNat) := fun h => named (tableEntries_none s table h)
  simp only [BitVec.toNat_eq, BitVec.toNat_ofNat]
  omega

/-- Settles O14: each table's WRITE refuses in the order of R175 (`RefusedInOrder`), for the size and the number of
entries that the table has. -/
theorem writesRefusedInOrder : Obligations.WritesRefusedInOrder := by
  intro table index count data s ha request
  refine ⟨fun size entries found => ?_, fun other => ?_, fun kind _ => ?_⟩
  · have spread (request : Instr) (n m : Nat) (size' : size = m) (length : entries.length = n)
        (h : s.RefusedInOrder request table index count data n m) := by
      subst size'
      rw [← length] at h
      exact And.intro h.1 (And.intro h.2.1
        (And.intro (fun hw al => (h.2.2 hw al).1) (And.intro (fun hw al => (h.2.2 hw al).2.1)
          fun hw al => (h.2.2 hw al).2.2)))
    rcases table_cases s table (by simp [found]) with rfl | rfl | rfl | rfl | rfl | rfl | rfl | rfl
    all_goals obtain ⟨rfl, rfl⟩ := Prod.mk.inj (Option.some.inj found)
    · exact spread _ _ _ rfl rfl (refusedInOrder_job ha)
    · exact spread _ _ _ rfl rfl (refusedInOrder_station ha)
    · exact spread _ _ _ rfl rfl (refusedInOrder_loop ha)
    · exact spread _ _ _ rfl (by simp) (refusedInOrder_sensor ha)
    · exact spread _ _ _ rfl (by simp) (refusedInOrder_lane ha)
    · exact spread _ _ _ rfl (by simp) (refusedInOrder_disp ha)
    · exact spread _ _ _ rfl (by simp) (refusedInOrder_override ha)
    · exact spread _ _ _ rfl (by simp) (refusedInOrder_sched ha)
  · exact congrArg _ (s.ifAddressed_addressed _ ha)
  · exact congrArg _ (s.ifAddressed_addressed _ ha)

/-! ## READ -/

/-- A table's entries in index order. -/
theorem toList_map_eq_finRange {α β : Type} {n : Nat} (v : Vector α n) (f : α → β) :
    v.toList.map f = (List.finRange n).map fun i => f v[i.val] :=
  List.ext_getElem (by simp) fun i h₁ h₂ => by simp

theorem exec_read (table : Byte) (index : Half) (count : Byte) (s : State) (ha : s.addressed = true) :
    exec (.read table index count) s
      = .next (s.answer (s.readAnswer table index count).1 (s.readAnswer table index count).2) := by
  change execRead table index count s = _
  rw [execRead, s.ifAddressed_addressed _ ha]

/-- Settles O11: the tables are laid out by their definitions, and READ makes the tests of R175 in their order. -/
theorem readReturnsEntries : Obligations.ReadReturnsEntries := by
  refine ⟨fun s => ⟨rfl, rfl, rfl, ?sensor, ?lane, ?disp, ?override, ?sched, tableEntries_none s⟩,
    fun table index count s ha => ⟨fun other => ?_, fun size entries found => ⟨fun bad => ?_,
      fun one few fits outside => ?_, fun one few fits inside => ?_⟩⟩⟩
  case sensor =>
    refine congrArg (fun l => some (1, l)) ((toList_map_eq_finRange s.reg.edges _).trans (List.map_congr_left fun i _ => ?_))
    cases s.reg.edges[i.val] <;> rfl
  case lane => exact congrArg (fun l => some (12, l)) (toList_map_eq_finRange s.stk.cfg _)
  case disp =>
    refine congrArg (fun l => some (1, l)) ((toList_map_eq_finRange s.disp.disp _).trans (List.map_congr_left fun i _ => ?_))
    dsimp only [DispEntry.bytes]
    cases s.disp.disp[i.val].action <;> rfl
  case override => exact congrArg (fun l => some (12, l)) (toList_map_eq_finRange s.disp.overrides _)
  case sched => exact congrArg (fun l => some (2, l)) (toList_map_eq_finRange s.sched.table _)
  · rw [exec_read table index count s ha, State.readAnswer, tableEntries_none s table other]
    rfl
  all_goals rw [exec_read table index count s ha, State.readAnswer, found]
  · dsimp only
    by_cases many : 8 < count.toNat
    · rw [if_pos many]
      rfl
    · rw [if_neg many, accessError_badLength _ _ _ _ (by omega)]
      rfl
  · dsimp only
    rw [if_neg (by omega), accessError_badIndex _ _ _ _ one fits outside]
    rfl
  · dsimp only
    rw [if_neg (by omega), accessError_none _ _ _ _ one fits inside]

end Sys2Proof.Machine
end

section
/-! The status record and the counters (R176, R177, Tables 11-8 and 11-9). -/

namespace Sys2Proof.Machine

theorem fieldAt_one (b : List Byte) (i : Nat) : fieldAt b i 1 = (byteAt b i).toNat := by
  simp [fieldAt]

theorem fieldAt_two (b : List Byte) (i : Nat) :
    fieldAt b i 2 = (byteAt b i).toNat * 256 + (byteAt b (i + 1)).toNat := by
  simp [fieldAt]

theorem fieldAt_four (b : List Byte) (i : Nat) :
    fieldAt b i 4 = (byteAt b i).toNat * 16777216 + (byteAt b (i + 1)).toNat * 65536
      + (byteAt b (i + 2)).toNat * 256 + (byteAt b (i + 3)).toNat := by
  simp [fieldAt]
  omega

/-- A field of block k in a row of blocks of one size. -/
theorem fieldAt_flatten (size : Nat) (blocks : List (List Byte)) (sizes : ∀ x ∈ blocks, x.length = size) (k : Nat)
    (hk : k < blocks.length) (off n : Nat) (inside : off + n ≤ size) :
    fieldAt blocks.flatten (size * k + off) n = fieldAt blocks[k] off n := by
  induction blocks generalizing k with
  | nil => simp at hk
  | cons x xs ih =>
    have first : x.length = size := sizes x (by simp)
    rw [List.flatten_cons]
    cases k with
    | zero => simpa using fieldAt_within x xs.flatten off n (by omega)
    | succ k =>
      rw [fieldAt_skip _ _ _ _ (by rw [first, Nat.mul_succ]; omega), first,
        show size * (k + 1) + off - size = size * k + off by rw [Nat.mul_succ]; omega,
        ih (fun y hy => sizes y (by simp [hy])) k (by simpa using hk), List.getElem_cons_succ]

theorem StackLane.statusBytes_length (l : StackLane) : l.statusBytes.length = 3 := by
  simp [StackLane.statusBytes]

/-- Table 11-8: the fields of the status record before the lanes. -/
def State.statusHead (s : State) : List Byte :=
  beBytes 1 s.link.node.toNat ++ beBytes 1 s.job.state.code ++ beBytes 1 s.job.cause.code
    ++ beBytes 1 s.reg.state.code ++ intBytes 4 s.pitchEstimate
    ++ [alarmByte s.reg.pitchLow s.reg.pitchHigh, flagByte s.link.linkDownBefore]
    ++ intBytes 2 s.cut.target ++ intBytes 2 s.cut.applied ++ beBytes 4 s.track.pos.toNat
    ++ beBytes 2 s.track.queue.length ++ beBytes 1 s.track.zones.length
    ++ beBytes 1 s.sched.knife.length ++ beBytes 1 s.sched.gate.length
    ++ beBytes 1 s.sched.stack.length ++ beBytes 1 s.sched.notices.length

theorem State.statusBytes_eq (s : State) :
    s.statusBytes = s.statusHead ++ (s.stk.lanes.toList.map StackLane.statusBytes).flatten := rfl

theorem State.statusHead_length (s : State) : s.statusHead.length = 25 := by
  simp [State.statusHead]

theorem State.fieldAt_statusBytes_lane (s : State) (k : Fin 8) (off n : Nat) (inside : off + n ≤ 3) :
    fieldAt s.statusBytes (25 + (3 * k.val + off)) n = fieldAt (s.lane k).statusBytes off n := by
  have hk : k.val < (s.stk.lanes.toList.map StackLane.statusBytes).length := by simp
  rw [s.statusBytes_eq, fieldAt_skip _ _ _ _ (by rw [s.statusHead_length]; omega), s.statusHead_length,
    Nat.add_sub_cancel_left, fieldAt_flatten 3 _ (by simp [StackLane.statusBytes_length]) k.val hk off n inside]
  simp [State.lane]

theorem State.fieldAt_statusBytes_head (s : State) (off n : Nat) (inside : off + n ≤ 25) :
    fieldAt s.statusBytes off n = fieldAt s.statusHead off n := by
  rw [s.statusBytes_eq, fieldAt_within _ _ _ _ (by rw [s.statusHead_length]; omega)]

theorem fieldAt_intBytes (n : Nat) (v : Int) (rest : List Byte) :
    fieldAt (intBytes n v ++ rest) 0 n = (BitVec.ofInt (8 * n) v).toNat := by
  have fits : (BitVec.ofInt (8 * n) v).toNat < 256 ^ n := by
    have := (BitVec.ofInt (8 * n) v).isLt
    rwa [pow_mul] at this
  rw [intBytes, fieldAt_beBytes, Nat.mod_eq_of_lt fits]

/-- Settles O15: the fields stand one after another, so each is read at the sum of the sizes before it. -/
theorem statusRecordLayout : Obligations.StatusRecordLayout := by
  unfold Obligations.StatusRecordLayout
  intro jobState holdCause regState stacker faultCause
  refine ⟨fun b i => ⟨fieldAt_one b i, fieldAt_two b i, fieldAt_four b i⟩, fun s ha => ⟨s.statusBytes, ?_, ?_, ?_⟩⟩
  · exact congrArg _ (s.ifAddressed_addressed _ ha)
  · simp [s.statusBytes_eq, s.statusHead_length, StackLane.statusBytes_length, Function.comp_def]
  · rw [s.fieldAt_statusBytes_head 0 1 (by omega), s.fieldAt_statusBytes_head 1 1 (by omega),
      s.fieldAt_statusBytes_head 2 1 (by omega), s.fieldAt_statusBytes_head 3 1 (by omega),
      s.fieldAt_statusBytes_head 4 4 (by omega), s.fieldAt_statusBytes_head 8 1 (by omega),
      s.fieldAt_statusBytes_head 9 1 (by omega), s.fieldAt_statusBytes_head 10 2 (by omega),
      s.fieldAt_statusBytes_head 12 2 (by omega), s.fieldAt_statusBytes_head 14 4 (by omega),
      s.fieldAt_statusBytes_head 18 2 (by omega), s.fieldAt_statusBytes_head 20 1 (by omega),
      s.fieldAt_statusBytes_head 21 1 (by omega), s.fieldAt_statusBytes_head 22 1 (by omega),
      s.fieldAt_statusBytes_head 23 1 (by omega), s.fieldAt_statusBytes_head 24 1 (by omega)]
    have node := s.link.node.isLt
    refine ⟨?_, ?_, ?_, ?_, ?_, ?_, ?_, ?_, ?_, ?_, ?_, ?_, ?_, ?_, ?_, ?_, fun k => ?_⟩
    case refine_2 => cases h : s.job.state <;> simp [State.statusHead, h, JobState.code, jobState]
    case refine_3 => cases h : s.job.cause <;> simp [State.statusHead, h, HoldCause.code, holdCause]
    case refine_4 => cases h : s.reg.state <;> simp [State.statusHead, h, RegState.code, regState]
    case refine_6 =>
      cases low : s.reg.pitchLow <;> cases high : s.reg.pitchHigh <;>
        simp [State.statusHead, low, high, alarmByte, fieldAt_one]
    case refine_7 =>
      cases down : s.link.linkDownBefore <;> simp [State.statusHead, down, flagByte, fieldAt_one]
    case refine_17 =>
      have state := s.fieldAt_statusBytes_lane k 0 1 (by omega)
      have cause := s.fieldAt_statusBytes_lane k 1 1 (by omega)
      have length := s.fieldAt_statusBytes_lane k 2 1 (by omega)
      rw [show 26 + 3 * k.val = 25 + (3 * k.val + 1) by omega, show 27 + 3 * k.val = 25 + (3 * k.val + 2) by omega,
        cause, length]
      refine ⟨state.trans ?_, ?_, by simp [StackLane.statusBytes]⟩
      · cases h : (s.lane k).state <;> simp [StackLane.statusBytes, h, StackerState.code, stacker]
      · cases h : (s.lane k).cause <;> simp [StackLane.statusBytes, h, FaultCause.code, faultCause]
    all_goals simp [State.statusHead, List.append_assoc, fieldAt_intBytes]
    all_goals omega

/-! ## The counters -/

theorem flagSet_iff (b : Byte) : flagSet b = true ↔ b ≠ 0#8 := by
  simp [flagSet]

theorem counterBytes_eq (cs : List Word) : counterBytes cs = cs.flatMap fun c => beBytes 4 c.toNat :=
  List.flatMap_def.symm

section

variable {selector : Byte} (clear : Byte) {s : State} (ha : s.addressed = true)

include ha

theorem exec_readCounters_device :
    exec (.readCounters 0xFF#8 clear) s = .next
      (if flagSet clear then (s.answer .ok (counterBytes s.deviceCounters)).clearDeviceCounters
        else s.answer .ok (counterBytes s.deviceCounters)) := by
  change execReadCounters 0xFF#8 clear s = _
  rw [execReadCounters, s.ifAddressed_addressed _ ha, if_pos rfl]

theorem exec_readCounters_lane (k : Fin 8) (hk : selector.toNat = k.val) :
    exec (.readCounters selector clear) s = .next
      (if flagSet clear then (s.answer .ok (counterBytes s.disp.counters[k.val].values)).clearLaneCounters k
        else s.answer .ok (counterBytes s.disp.counters[k.val].values)) := by
  have not_device : selector ≠ 0xFF#8 := fun e => by
    rw [e] at hk
    simp at hk
    omega
  change execReadCounters selector clear s = _
  rw [execReadCounters, s.ifAddressed_addressed _ ha, if_neg not_device, (laneOf_eq_some selector k).2 hk]

end

/-- Settles O16: the selector names the device set, a lane or nothing, and the flag clears the set named. -/
theorem countersReadAndCleared : Obligations.CountersReadAndCleared := by
  refine fun selector clear s ha => ⟨?_, fun k hk => ?_, fun above not_device => ?_⟩
  · rintro rfl
    rw [exec_readCounters_device clear ha, counterBytes_eq]
    refine ⟨fun keep => ?_, fun cleared => ?_⟩
    · subst keep
      rfl
    · rw [if_pos ((flagSet_iff clear).2 cleared)]
      rfl
  · rw [exec_readCounters_lane clear ha k hk, counterBytes_eq]
    refine ⟨fun keep => ?_, fun cleared => ?_⟩
    · subst keep
      rfl
    · rw [if_pos ((flagSet_iff clear).2 cleared)]
      rfl
  · change execReadCounters selector clear s = _
    rw [execReadCounters, s.ifAddressed_addressed _ ha, if_neg not_device, (laneOf_eq_none selector).2 above]

end Sys2Proof.Machine
end

section
/-! The stacking unit: the test of a change, faults, the ends of changes, and the closings (R122 to R139). -/

namespace Sys2Proof.Machine

/-! ## Faults and the ends of changes -/

/-- The lane as a fault of this cause leaves it (R135). -/
def StackLane.faulted (cause : FaultCause) (l : StackLane) : StackLane :=
  { state := .fault, cause, gap := 0, next := l.next, timer := none, list := [] }

/-- R135: a fault empties the lane, drops its STACK items, is noticed, and may complete an ENDING. -/
theorem State.faultLane_eq (s : State) (k : Fin 8) (cause : FaultCause) :
    s.faultLane k cause
      = (({ s with
            stk := { s.stk with lanes := s.stk.lanes.set k.val ((s.lane k).faulted cause) }
            sched := { s.sched with stack := s.sched.stack.filter (·.lane != k) } } : State).notify .stackerFault
          (some k) (BitVec.ofNat 32 cause.code)).completeEnding := rfl

/-- R132: what an expiry of a timer that is due does. -/
theorem State.expireIfDue_of_due (s : State) (k : Fin 8) (due : (s.lane k).timerDue = true) :
    s.expireIfDue k = s.faultLane k .timeout :=
  if_pos due

theorem State.expireIfDue_of_not_due (s : State) (k : Fin 8) (due : (s.lane k).timerDue = false) :
    s.expireIfDue k = s :=
  if_neg (by simp [due])

theorem StackLane.timerDue_eq (l : StackLane) : l.timerDue = l.timer.any fun x => decide (x.timeout ≤ x.count) := by
  unfold StackLane.timerDue
  cases l.timer <;> rfl

theorem StackLane.awaits_iff (l : StackLane) (number : Nat) :
    l.awaits number = true ↔ ∃ r rest, l.list = r :: rest ∧ r.state = .changing ∧ r.number = number := by
  unfold StackLane.awaits
  cases l.list with
  | nil => simp
  | cons r rest => simp

/-- The lane whose change has ended, before the next is asked for (R133). -/
def StackLane.released (l : StackLane) : StackLane :=
  { l with list := l.list.tail.map fun r => { r with held := 0 }, timer := none }

/-- R133: the end of a change. -/
theorem State.endChange_eq (s : State) (k : Fin 8) (number : Nat) :
    s.endChange k number = ({ s with
      stk := { s.stk with
        lanes := s.stk.lanes.set k.val { (s.lane k).released with list := changeAsked (s.lane k).released.list } }
      sched := { s.sched.notify .stackDone (some k) (BitVec.ofNat 32 number) with
        stack := s.sched.stack ++ changeItems k (s.lane k).released.list } } : State).completeEnding := by
  have lane : (((s.onLane k StackLane.released).notify .stackDone (some k) (BitVec.ofNat 32 number)).lane k)
      = (s.lane k).released := s.onLane_lane_self k _
  have stack := (s.sched.notify_frame .stackDone (some k) (BitVec.ofNat 32 number)).2.2.1
  change (((s.onLane k StackLane.released).notify .stackDone (some k)
    (BitVec.ofNat 32 number)).requestChange k).completeEnding = _
  rw [State.requestChange_eq, lane]
  have twice : ((s.onLane k StackLane.released).notify .stackDone (some k) (BitVec.ofNat 32 number)).stk.lanes
      = s.stk.lanes.set k.val (s.lane k).released := rfl
  rw [twice, Vector.set_set, State.notify_sched]
  change State.completeEnding { s with
    stk := _
    sched := { s.sched.notify _ _ _ with stack := (s.sched.notify _ _ _).stack ++ _ } } = _
  rw [stack]
  rfl

section

variable {s : State} (ha : s.addressed = true) {lane : Byte} (number : Half)

include ha

theorem exec_stkready_outside (h : 8 ≤ lane.toNat) : exec (.stkready lane number) s = .next s.countStrayReady := by
  change execStkready lane number s = _
  rw [execStkready, s.ifAddressed_addressed _ ha, (laneOf_eq_none lane).2 h]

/-- R133: a STKREADY of a lane takes its due expiry first, and then ends the change that it names. -/
theorem exec_stkready_lane (k : Fin 8) (hk : lane.toNat = k.val) :
    exec (.stkready lane number) s = .next
      (if ((s.expireIfDue k).lane k).awaits number.toNat then (s.expireIfDue k).endChange k number.toNat
        else (s.expireIfDue k).countStrayReady) := by
  change execStkready lane number s = _
  rw [execStkready, s.ifAddressed_addressed _ ha, (laneOf_eq_some lane k).2 hk]

end

/-- The end of an ENDING touches no lane. -/
@[simp] theorem State.completeEnding_stk (s : State) : s.completeEnding.stk = s.stk := by
  unfold State.completeEnding
  split <;> rfl

theorem State.faultLane_lane_self (s : State) (k : Fin 8) (cause : FaultCause) :
    (s.faultLane k cause).lane k = (s.lane k).faulted cause := by
  rw [s.faultLane_eq]
  simp [State.lane]

/-- Settles O44: an expiry is a fault where the timer is due, and a STKREADY behind it finds an empty list. -/
theorem changesEndOrExpire : Obligations.ChangesEndOrExpire := by
  intro s k completed due faulted expired
  have complete (u : State) : u.completeEnding = completed u := u.completeEnding_eq
  have timer : (s.lane k).timerDue = due := (s.lane k).timerDue_eq
  have fault : s.faultLane k .timeout = expired := (s.faultLane_eq k .timeout).trans (complete _)
  refine ⟨fun off => ?_, fun on => ?_, fun ha lane number => ⟨fun above => ?_, fun hk on => ?_, fun hk off =>
    ⟨fun r rest hl changing named => ?_, fun other => ?_⟩⟩⟩
  · exact congrArg _ (s.expireIfDue_of_not_due k (timer.trans off))
  · exact congrArg _ ((s.expireIfDue_of_due k (timer.trans on)).trans fault)
  · exact exec_stkready_outside ha number above
  · have empty : ¬ ((s.faultLane k .timeout).lane k).awaits number.toNat = true := by
      rw [s.faultLane_lane_self]
      exact Bool.false_ne_true
    rw [exec_stkready_lane ha number k hk, s.expireIfDue_of_due k (timer.trans on), if_neg empty, fault]
    rfl
  · rw [exec_stkready_lane ha number k hk, s.expireIfDue_of_not_due k (timer.trans off),
      if_pos (((s.lane k).awaits_iff _).2 ⟨r, rest, hl, changing, named⟩), s.endChange_eq, complete]
    simp only [StackLane.released, hl, List.tail_cons]
  · rw [exec_stkready_lane ha number k hk, s.expireIfDue_of_not_due k (timer.trans off), if_neg]
    · rfl
    · rw [StackLane.awaits_iff]
      rintro ⟨r, rest, hl, named⟩
      exact other r rest hl named

/-- Settles O45: `faultLane_eq` with the code of the cause and the end of an ENDING written out. -/
theorem nodeFaultsAReadyLane : Obligations.NodeFaultsAReadyLane := by
  unfold Obligations.NodeFaultsAReadyLane
  intro fault
  have faults (s : State) (k : Fin 8) (cause : FaultCause) : s.faultLane k cause = fault k cause s := by
    rw [s.faultLane_eq, State.completeEnding_eq]
    cases cause <;> rfl
  refine ⟨faults, fun lane s ha => ⟨fun above => ?_, fun k hk => ⟨fun faulted => ?_, fun ready => ?_⟩⟩⟩
  all_goals
    change execStkfault lane s = _
    rw [execStkfault, s.ifAddressed_addressed _ ha]
  · rw [(laneOf_eq_none lane).2 above]
  · rw [(laneOf_eq_some lane k).2 hk]
    exact congrArg _ (if_neg (by simp [faulted]))
  · rw [(laneOf_eq_some lane k).2 hk]
    exact congrArg _ ((if_pos ready).trans (faults s k .node))

/-! ## Closing a lane -/

/-- A change of one lane followed by the test of its change (R130). -/
theorem State.requestChange_onLane (s : State) (k : Fin 8) (f : StackLane → StackLane) :
    (s.onLane k f).requestChange k = { s with
      stk := { s.stk with
        lanes := s.stk.lanes.set k.val { f (s.lane k) with list := changeAsked (f (s.lane k)).list } }
      sched := { s.sched with stack := s.sched.stack ++ changeItems k (f (s.lane k)).list } } := by
  have twice : (s.onLane k f).stk.lanes = s.stk.lanes.set k.val (f (s.lane k)) := rfl
  rw [State.requestChange_eq, s.onLane_lane_self, twice, Vector.set_set]
  rfl

theorem State.set_lane_ofFn (s : State) (k : Fin 8) (l : StackLane) :
    s.stk.lanes.set k.val l = Vector.ofFn fun j : Fin 8 => if j = k then l else s.lane j := by
  refine Vector.ext fun j hj => ?_
  rw [Vector.getElem_set, Vector.getElem_ofFn]
  simp [State.lane, Fin.ext_iff, eq_comm]

/-- The lanes of a list, each changed and tested in turn: each sees only its own change, and the STACK items join in
the order of the list. -/
theorem State.foldl_requestChange_onLane (f : StackLane → StackLane) (ks : List (Fin 8)) (distinct : ks.Nodup)
    (s : State) :
    ks.foldl (fun s k => (s.onLane k f).requestChange k) s = { s with
      stk := { s.stk with lanes := Vector.ofFn fun k : Fin 8 =>
        if k ∈ ks then { f (s.lane k) with list := changeAsked (f (s.lane k)).list } else s.lane k }
      sched := { s.sched with
        stack := s.sched.stack ++ ks.flatMap fun k => changeItems k (f (s.lane k)).list } } := by
  induction ks generalizing s with
  | nil =>
    have same : (Vector.ofFn fun k : Fin 8 => s.lane k) = s.stk.lanes := Vector.ext fun i hi => by simp [State.lane]
    simp [same]
  | cons k ks ih =>
    obtain ⟨fresh, rest⟩ := List.nodup_cons.1 distinct
    rw [List.foldl_cons, ih rest, s.requestChange_onLane, s.set_lane_ofFn]
    have lane (j : Fin 8) : ({ s with
        stk := { s.stk with lanes := Vector.ofFn fun j : Fin 8 =>
          if j = k then { f (s.lane k) with list := changeAsked (f (s.lane k)).list } else s.lane j }
        sched := { s.sched with stack := s.sched.stack ++ changeItems k (f (s.lane k)).list } } : State).lane j
        = if j = k then { f (s.lane k) with list := changeAsked (f (s.lane k)).list } else s.lane j := by
      simp [State.lane]
    simp only [lane]
    have lanes (j : Fin 8) : (if j ∈ ks then
          { f (if j = k then { f (s.lane k) with list := changeAsked (f (s.lane k)).list } else s.lane j) with
            list := changeAsked
              (f (if j = k then { f (s.lane k) with list := changeAsked (f (s.lane k)).list } else s.lane j)).list }
        else if j = k then { f (s.lane k) with list := changeAsked (f (s.lane k)).list } else s.lane j)
        = if j ∈ k :: ks then { f (s.lane j) with list := changeAsked (f (s.lane j)).list } else s.lane j := by
      by_cases same : j = k
      · subst same
        simp [fresh]
      · simp [same]
    have items : (ks.flatMap fun j => changeItems j
          (f (if j = k then { f (s.lane k) with list := changeAsked (f (s.lane k)).list } else s.lane j)).list)
        = ks.flatMap fun j => changeItems j (f (s.lane j)).list := by
      refine List.flatMap_congr fun j hj => ?_
      have other : j ≠ k := fun e => fresh (e ▸ hj)
      rw [if_neg other]
    rw [items, List.flatMap_cons, List.append_assoc]
    simp only [lanes]

theorem allLanes_nodup : allLanes.Nodup := by decide

/-- Every lane changed and tested, from lane 0 upward. -/
theorem State.foldl_allLanes_requestChange (f : StackLane → StackLane) (s : State) :
    allLanes.foldl (fun s k => (s.onLane k f).requestChange k) s = { s with
      stk := { s.stk with lanes := Vector.ofFn fun k : Fin 8 =>
        { f (s.lane k) with list := changeAsked (f (s.lane k)).list } }
      sched := { s.sched with
        stack := s.sched.stack ++ allLanes.flatMap fun k => changeItems k (f (s.lane k)).list } } := by
  rw [State.foldl_requestChange_onLane f allLanes allLanes_nodup s]
  simp only [mem_allLanes, if_true]

/-- The lane closed short with no gap left, before its change is asked for (R138). -/
def StackLane.closedAtEnd (l : StackLane) : StackLane :=
  { l with list := l.list.map StackRec.closeShort, gap := 0 }

/-- R138: the end-of-job closing, all lanes at once. -/
theorem State.endOfJobClosing_eq (s : State) :
    s.endOfJobClosing = ({ s with
      stk := { s.stk with lanes := Vector.ofFn fun k : Fin 8 =>
        { (s.lane k).closedAtEnd with list := changeAsked (s.lane k).closedAtEnd.list } }
      sched := { s.sched with
        stack := s.sched.stack ++ allLanes.flatMap fun k => changeItems k (s.lane k).closedAtEnd.list } }
      : State).completeEnding :=
  congrArg State.completeEnding (State.foldl_allLanes_requestChange StackLane.closedAtEnd s)

/-- The lane settled at entry to HOLD, before its change is asked for (R139). -/
def StackLane.settled (l : StackLane) : StackLane :=
  { l with list := l.list.filterMap StackRec.settle, gap := 0 }

/-- R139: the settlement of all lanes at once. -/
theorem State.settleStacks_eq (s : State) :
    s.settleStacks = { s with
      stk := { s.stk with lanes := Vector.ofFn fun k : Fin 8 =>
        { (s.lane k).settled with list := changeAsked (s.lane k).settled.list } }
      sched := { s.sched with
        stack := s.sched.stack ++ allLanes.flatMap fun k => changeItems k (s.lane k).settled.list } } :=
  State.foldl_allLanes_requestChange StackLane.settled s

/-! ## LANE_ENABLE and CLOSE_STACK -/

section

variable {s : State} (ha : s.addressed = true) {lane : Byte}

include ha

theorem exec_laneEnable_lane (k : Fin 8) (hk : lane.toNat = k.val) :
    exec (.laneEnable lane) s = .next ((if (s.lane k).state = .fault then
      s.onLane k fun l => { l with state := .ready, cause := .none } else s).reply .ok) := by
  change execLaneEnable lane s = _
  rw [execLaneEnable, s.ifAddressed_addressed _ ha, (laneOf_eq_some lane k).2 hk]

theorem exec_closeStack_lane (k : Fin 8) (hk : lane.toNat = k.val) :
    exec (.closeStack lane) s = .next (if (s.lane k).list.any (·.state == .assigning) then
      ((s.onLane k fun l => { l with list := l.list.map StackRec.closeShort,
                                     gap := (s.cfg k).changeGap }).requestChange k).reply .ok
      else s.reply .wrongState) := by
  change execCloseStack lane s = _
  rw [execCloseStack, s.ifAddressed_addressed _ ha, (laneOf_eq_some lane k).2 hk]

end

/-- Settles O46: the test by `requestChange_eq`, the requests by the lane they name. -/
theorem lanesEnabledAndClosed : Obligations.LanesEnabledAndClosed := by
  refine ⟨State.requestChange_eq, fun lane s ha => ⟨fun above => ⟨?_, ?_⟩, fun k hk => ?_⟩⟩
  · change execLaneEnable lane s = _
    rw [execLaneEnable, s.ifAddressed_addressed _ ha, (laneOf_eq_none lane).2 above]
  · change execCloseStack lane s = _
    rw [execCloseStack, s.ifAddressed_addressed _ ha, (laneOf_eq_none lane).2 above]
  · refine ⟨fun ready => ?_, fun faulted => ?_, fun none_open => ?_, fun some_open => ?_⟩
    · rw [exec_laneEnable_lane ha k hk, if_neg (by simp [ready])]
    · rw [exec_laneEnable_lane ha k hk, if_pos faulted]
      rfl
    · rw [exec_closeStack_lane ha k hk, if_neg (by simpa using none_open)]
    · rw [exec_closeStack_lane ha k hk, if_pos (by simpa using some_open), s.requestChange_onLane]
      rfl

/-! ## Assignment at commit -/

section

variable {l : StackLane} (cfg : LaneCfg) (design : Nat)

/-- In a list of which only the youngest is ASSIGNING, that one is found. -/
theorem find?_assigning_youngest {older : List StackRec} {r : StackRec} (others : ∀ x ∈ older, x.state ≠ .assigning)
    (hr : r.state = .assigning) : (older ++ [r]).find? (·.state == .assigning) = some r := by
  rw [List.find?_append, List.find?_eq_none.2 (by simpa using others), Option.none_or, List.find?_cons_of_pos]
  simp [hr]

theorem map_youngest_assigning {older : List StackRec} {r : StackRec} (others : ∀ x ∈ older, x.state ≠ .assigning)
    (hr : r.state = .assigning) (f : StackRec → StackRec) :
    (older ++ [r]).map (fun x => if x.state = .assigning then f x else x) = older ++ [f r] := by
  have same : older.map (fun x => if x.state = .assigning then f x else x) = older := by
    conv_rhs => rw [← List.map_id older]
    exact List.map_congr_left fun x hx => if_neg (others x hx)
  simp [same, hr]

theorem StackLane.openFor_room (room : l.list.length < 4) :
    l.openFor cfg design = (.stack l.next,
      { l with list := l.list ++ [(StackRec.opened cfg l.next design).take], next := nextStackNumber l.next,
               gap := l.gapAfter cfg (StackRec.opened cfg l.next design).take }) :=
  if_neg (Nat.not_le.2 room)

theorem StackLane.openFor_full (full : 4 ≤ l.list.length) : l.openFor cfg design = (.listFull, l) :=
  if_pos full

/-- R126: the state of a stack that has taken its first label. -/
theorem StackRec.opened_take (number : Nat) :
    (StackRec.opened cfg number design).take
      = { number := number, design := design, assigned := 1, arrived := 0, held := 0, target := cfg.target,
          suspect := 0, short := false, requested := false,
          state := if cfg.target = 1 then .filled else .assigning } := by
  simp only [StackRec.take, StackRec.opened, eq_comm (a := (0 + 1 : Nat))]

theorem gapAfter_opened (number : Nat) :
    l.gapAfter cfg (StackRec.opened cfg number design).take = if cfg.target = 1 then cfg.changeGap else l.gap := by
  rw [StackRec.opened_take, StackLane.gapAfter]
  by_cases single : cfg.target = 1 <;> simp [single]

theorem StackLane.assign_of_none (h : ∀ x ∈ l.list, x.state ≠ .assigning) :
    l.assign cfg design = l.openFor cfg design := by
  have none_found : l.list.find? (·.state == .assigning) = none := List.find?_eq_none.2 (by simpa using h)
  rw [StackLane.assign, none_found]

/-- Step 11 for a lane whose youngest record is ASSIGNING, by its design and the change gap. -/
theorem StackLane.assign_of_youngest {older : List StackRec} {r : StackRec} (hl : l.list = older ++ [r])
    (others : ∀ x ∈ older, x.state ≠ .assigning) (hr : r.state = .assigning) :
    l.assign cfg design =
      if r.design = design then
        (.stack r.number, { l with list := older ++ [r.take], gap := l.gapAfter cfg r.take })
      else if cfg.changeGap = 0 then
        StackLane.openFor cfg design
          { l with list := older ++ [{ r with state := .filled, short := true }], gap := 0 }
      else (.gap, { l with list := older ++ [{ r with state := .filled, short := true }],
                           gap := cfg.changeGap - 1 }) := by
  have found : l.list.find? (·.state == .assigning) = some r := hl ▸ find?_assigning_youngest others hr
  have closed : l.list.map StackRec.closeShort = older ++ [{ r with state := .filled, short := true }] := by
    rw [hl]
    exact map_youngest_assigning others hr fun x => { x with state := .filled, short := true }
  have joined : l.list.map (fun x => if x.state = .assigning then x.take else x) = older ++ [r.take] := by
    rw [hl]
    exact map_youngest_assigning others hr StackRec.take
  rw [StackLane.assign, found]
  simp only [StackLane.join, closed, joined]

end

/-- Settles O43: a sound list has at most its youngest record ASSIGNING, so `assign_of_none` and `assign_of_youngest`
are all the cases. -/
theorem labelsJoinStacks : Obligations.LabelsJoinStacks := by
  intro cfg design l sound opened next
  obtain ⟨-, -, -, onlyYoungest, -⟩ := sound
  have made : (StackRec.opened cfg l.next design).take = opened := StackRec.opened_take cfg design l.next
  refine ⟨fun none_open => ⟨fun room => ?_, fun full => ?_⟩, fun older r hl hr => ?_⟩
  · rw [StackLane.assign_of_none cfg design none_open, StackLane.openFor_room cfg design room, gapAfter_opened, made]
    rfl
  · rw [StackLane.assign_of_none cfg design none_open, StackLane.openFor_full cfg design full.ge]
  · have others : ∀ x ∈ older, x.state ≠ .assigning := by
      simpa [hl] using onlyYoungest
    have step := StackLane.assign_of_youngest cfg design hl others hr
    refine ⟨fun same more => ?_, fun same fills => ?_, fun other gap => ?_, fun other none_gap room => ?_,
      fun other none_gap full => ?_⟩
    · have stays : r.take = { r with assigned := r.assigned + 1 } := by simp [StackRec.take, more]
      have gap : l.gapAfter cfg r.take = l.gap := by simp [stays, StackLane.gapAfter, hr]
      rw [step, if_pos same, gap, stays]
    · have filled : r.take = { r with assigned := r.assigned + 1, state := .filled } := by
        simp [StackRec.take, fills]
      have gap : l.gapAfter cfg r.take = cfg.changeGap := by simp [filled, StackLane.gapAfter]
      rw [step, if_pos same, gap, filled]
    · rw [step, if_neg other, if_neg (by omega)]
    · have length : (older ++ [{ r with state := .filled, short := true }]).length < 4 := by
        simpa [hl] using room
      rw [step, if_neg other, if_pos none_gap, StackLane.openFor_room cfg design length, gapAfter_opened, none_gap, made]
      simp only [ite_self, List.append_assoc, List.singleton_append]
      rfl
    · have length : 4 ≤ (older ++ [{ r with state := .filled, short := true }]).length := by
        simpa [hl] using full.ge
      rw [step, if_neg other, if_pos none_gap, StackLane.openFor_full cfg design length]

end Sys2Proof.Machine
end

section
/-! Entry to HOLD, late information, the outcome decision and the gate items (R62, R106 to R118, R166). -/

namespace Sys2Proof.Machine

/-! ## Charges over lanes and records -/

theorem State.lanesInUse_nodup (s : State) : s.lanesInUse.Nodup :=
  allLanes_nodup.filter _

/-- The state with other lane counters. -/
def State.withCounters (s : State) (c : Vector LaneCounters 8) : State :=
  { s with disp := { s.disp with counters := c } }

@[simp] theorem State.withCounters_counters (s : State) (c : Vector LaneCounters 8) :
    (s.withCounters c).disp.counters = c := rfl

@[simp] theorem State.withCounters_twice (s : State) (c d : Vector LaneCounters 8) :
    (s.withCounters c).withCounters d = s.withCounters d := rfl

theorem State.withCounters_self (s : State) : s.withCounters s.disp.counters = s := rfl

theorem State.charge_eq (s : State) (k : Fin 8) (which : LaneCounter) :
    s.charge k which = s.withCounters (s.disp.counters.set k.val (s.disp.counters[k.val].bump which)) := rfl

theorem vector_ext_fin {α : Type} {n : Nat} {v w : Vector α n} (h : ∀ i : Fin n, v[i.val] = w[i.val]) : v = w :=
  Vector.ext fun i hi => h ⟨i, hi⟩

/-- Distinct lanes charged in turn: each lane of the list that the condition holds for has one count more. -/
theorem State.foldl_charge (which : LaneCounter) (p : Fin 8 → Bool) (ks : List (Fin 8)) (distinct : ks.Nodup)
    (s : State) :
    ks.foldl (fun s k => if p k then s.charge k which else s) s
      = s.withCounters (Vector.ofFn fun k : Fin 8 =>
          if k ∈ ks ∧ p k = true then s.disp.counters[k.val].bump which else s.disp.counters[k.val]) := by
  induction ks generalizing s with
  | nil =>
    have same : (Vector.ofFn fun k : Fin 8 => s.disp.counters[k.val]) = s.disp.counters := vector_ext_fin fun k => by simp
    simpa [same] using s.withCounters_self.symm
  | cons k ks ih =>
    obtain ⟨fresh, rest⟩ := List.nodup_cons.1 distinct
    rw [List.foldl_cons, ih rest]
    by_cases hp : p k = true
    · rw [if_pos hp, s.charge_eq, State.withCounters_twice]
      refine congrArg s.withCounters (vector_ext_fin fun j => ?_)
      by_cases same : j = k
      · subst same
        simp [fresh, hp]
      · have apart : k.val ≠ j.val := fun e => same (Fin.ext e.symm)
        simp [same, Vector.getElem_set_ne _ _ apart]
    · rw [if_neg hp]
      refine congrArg s.withCounters (vector_ext_fin fun j => ?_)
      by_cases same : j = k
      · subst same
        simp [hp]
      · simp [same]

/-- R118: the accounting of one record charges each lane in use that it loses a label of. -/
theorem State.holdAccount_eq (s : State) (r : Record) :
    s.holdAccount r = s.withCounters (Vector.ofFn fun k : Fin 8 =>
      if k.val < s.job.job.lanes ∧ r.lostAtHold k = true then s.disp.counters[k.val].bump .lost
      else s.disp.counters[k.val]) := by
  have folded := State.foldl_charge .lost r.lostAtHold s.lanesInUse s.lanesInUse_nodup s
  simp only [State.mem_lanesInUse] at folded
  exact folded

/-- R118: the accounting of a queue charges a lane in use once for each record that it loses a label of. -/
theorem State.foldl_holdAccount (q : List Record) (s : State) :
    q.foldl (fun s r => s.holdAccount r) s = s.withCounters (Vector.ofFn fun k : Fin 8 =>
      if k.val < s.job.job.lanes then
        (LaneCounters.bump .lost)^[(q.filter fun r => r.lostAtHold k).length] s.disp.counters[k.val]
      else s.disp.counters[k.val]) := by
  induction q generalizing s with
  | nil =>
    have same : (Vector.ofFn fun k : Fin 8 => s.disp.counters[k.val]) = s.disp.counters := vector_ext_fin fun k => by simp
    simpa [same] using s.withCounters_self.symm
  | cons r q ih =>
    rw [List.foldl_cons, ih, s.holdAccount_eq, State.withCounters_twice]
    refine congrArg s.withCounters (vector_ext_fin fun k => ?_)
    have lanes : (s.withCounters (Vector.ofFn fun k : Fin 8 =>
        if k.val < s.job.job.lanes ∧ r.lostAtHold k = true then s.disp.counters[k.val].bump .lost
        else s.disp.counters[k.val])).job.job.lanes = s.job.job.lanes := rfl
    by_cases used : k.val < s.job.job.lanes
    · cases lost : r.lostAtHold k <;> simp [lanes, used, lost, List.filter_cons]
    · simp [lanes, used]

/-! ## Entry to HOLD -/

/-- R166: what entry to HOLD in RUN or ENDING leaves. -/
theorem State.enterHold_eq (s : State) (cause : HoldCause) (hr : s.running = true) :
    s.enterHold cause = { s with
      job := { s.job with state := .hold, cause }
      track := { s.track with queue := [], zones := [] }
      disp := { s.disp with
        lateGates := Vector.replicate 8 []
        counters := Vector.ofFn fun k : Fin 8 =>
          if k.val < s.job.job.lanes then
            (LaneCounters.bump .lost)^[(s.track.queue.filter fun r => r.lostAtHold k).length] s.disp.counters[k.val]
          else s.disp.counters[k.val] }
      sched := { s.sched.notify .jobState none (jobNoticeValue .hold cause) with
        knife := []
        gate := []
        stack := s.sched.stack ++ allLanes.flatMap fun k => changeItems k (s.lane k).settled.list }
      stk := { s.stk with lanes := Vector.ofFn fun k : Fin 8 =>
        { (s.lane k).settled with list := changeAsked (s.lane k).settled.list } } } := by
  have stack := (s.sched.notify_frame .jobState none (jobNoticeValue .hold cause)).2.2.1
  rw [State.enterHold, if_pos hr, State.discardQueue, State.foldl_holdAccount, State.settleStacks_eq, ← stack]
  rfl

theorem StackLane.settled_list (l : StackLane) : l.settled.list = l.list.filterMap StackRec.settle := rfl

/-- Settles O25: `enterHold_eq`, the settlement and the codes written out. -/
theorem holdDiscardsAndAccounts : Obligations.HoldDiscardsAndAccounts := by
  intro cause s code settled list
  refine ⟨s.enterHold_idle cause, fun hr => ?_⟩
  have value : jobNoticeValue .hold cause = BitVec.ofNat 32 (code * 256 + 4) := by
    cases cause <;> rfl
  intro t
  have made : t = _ := s.enterHold_eq cause hr
  rw [value] at made
  exact ⟨(congrArg State.job made :), (congrArg State.track made :), (congrArg State.reg made :), (congrArg State.cut made :),
    (congrArg State.link made :), (congrArg State.pending made :), (congrArg State.sched made :), (congrArg (·.disp.disp) made :),
    (congrArg (·.disp.overrides) made :), (congrArg (·.disp.lateGates) made :),
    fun k => (congrArg (·.disp.counters[k.val]) made).trans (Vector.getElem_ofFn k.isLt), (congrArg State.stk made :)⟩

/-! ## Late information -/

/-- R115, R129: what late information of this kind does to the lane of a label with this entry. -/
def LaneEntry.lateMark (e : LaneEntry) (kind : LateKind) (l : StackLane) : StackLane :=
  if kind = .lateGate then { l with list := chargeReceiving l.list }
  else
    match if kind.marks e then e.stackRef else none with
    | some number => { l with list := l.list.map fun r =>
        if r.number = number ∧ r.state ≠ .changing then { r with suspect := r.suspect + 1 } else r }
    | none => l

theorem State.onLane_id (s : State) (k : Fin 8) (f : StackLane → StackLane) (h : f (s.lane k) = s.lane k) :
    s.onLane k f = s := by
  have same : modAt s.stk.lanes k f = s.stk.lanes := by
    rw [modAt, show f s.stk.lanes[k.val] = s.lane k from h, s.set_own_lane]
  rw [State.onLane, State.onStk, same]

/-- R115: late information charges, notices, and marks the lane. -/
theorem State.lateInformation_eq (s : State) (r : Record) (k : Fin 8) (kind : LateKind) :
    s.lateInformation r k kind
      = ((s.charge k .lateInfo).notify .lateInfo (some k) r.serial).onLane k (r.lanes[k.val].lateMark kind) := by
  unfold State.lateInformation LaneEntry.lateMark
  by_cases gate : kind = .lateGate
  · simp only [gate, if_true]
    rfl
  · simp only [gate, if_false]
    by_cases marks : kind.marks r.lanes[k.val] = true
    · simp only [marks, if_true]
      cases r.lanes[k.val].stackRef with
      | none => exact (State.onLane_id _ k _ rfl).symm
      | some number => rfl
    · rw [if_neg marks, if_neg marks]
      exact (State.onLane_id _ k _ rfl).symm

/-- R129: the receiving stack is the oldest that is not CHANGING. -/
theorem chargeReceiving_split {changing rest : List StackRec} {x : StackRec}
    (before : ∀ y ∈ changing, y.state = .changing) (hx : x.state ≠ .changing) :
    chargeReceiving (changing ++ x :: rest) = changing ++ { x with suspect := x.suspect + 1 } :: rest := by
  induction changing with
  | nil => exact if_neg hx
  | cons y ys ih =>
    obtain ⟨hy, others⟩ := List.forall_mem_cons.1 before
    rw [List.cons_append, chargeReceiving, if_pos hy, ih others]
    rfl

theorem chargeReceiving_changing {list : List StackRec} (all : ∀ y ∈ list, y.state = .changing) :
    chargeReceiving list = list := by
  induction list with
  | nil => rfl
  | cons y ys ih =>
    obtain ⟨hy, others⟩ := List.forall_mem_cons.1 all
    rw [chargeReceiving, if_pos hy, ih others]

theorem LateKind.marks_iff (kind : LateKind) (e : LaneEntry) :
    kind.marks e = true ↔ e.outcome = some .stack ∧ (kind = .defectZone → e.override ≠ some .forceAccept) := by
  simp [LateKind.marks, imp_iff_not_or]

/-- Settles O40: `lateInformation_eq`, with the mark of the lane case by case. -/
theorem lateInformationMarksStacks : Obligations.LateInformationMarksStacks := by
  intro s r k kind e t lane
  have made : t = ((s.charge k .lateInfo).notify .lateInfo (some k) r.serial).onLane k (e.lateMark kind) :=
    s.lateInformation_eq r k kind
  have stk : t.stk = { s.stk with lanes := s.stk.lanes.set k.val (e.lateMark kind (s.lane k)) } :=
    (congrArg State.stk made :)
  have same (h : e.lateMark kind (s.lane k) = s.lane k) : t.stk = s.stk := by
    rw [stk, h, s.set_own_lane]
  have unmarked (gate : kind ≠ .lateGate) (h : ¬ kind.marks e = true) : e.lateMark kind (s.lane k) = s.lane k := by
    rw [LaneEntry.lateMark, if_neg gate, if_neg h]
  refine ⟨(congrArg State.disp made :), (congrArg State.sched made :), (congrArg State.track made :), (congrArg State.reg made :),
    (congrArg State.cut made :), (congrArg State.job made :), (congrArg State.link made :), fun gate other => ?_, fun zone accept => ?_, fun n gate stacked named open_ => ?_,
    fun changing rest x gate hl before hx => ?_, fun gate all => ?_⟩
  · exact same (unmarked gate fun h => other ((LateKind.marks_iff _ _).1 h).1)
  · exact same (unmarked (by simp [zone]) fun h => ((LateKind.marks_iff _ _).1 h).2 zone accept)
  · have marks : kind.marks e = true :=
      (LateKind.marks_iff _ _).2 ⟨stacked, fun zone => open_.resolve_left fun h => h zone⟩
    rw [stk, LaneEntry.lateMark, if_neg gate, if_pos marks, named]
  · rw [stk, LaneEntry.lateMark, if_pos gate, hl, chargeReceiving_split before hx]
  · refine same ?_
    rw [LaneEntry.lateMark, if_pos gate, chargeReceiving_changing all]

end Sys2Proof.Machine
end

section
/-! The outcome decision (R106 to R108) and the gate items (R112, R113). -/

namespace Sys2Proof.Machine

/-! ## Steps 1 to 7 -/

section

variable {policy : MarkPolicy} {r : Record} {e : LaneEntry} {matched : Option OverrideAction}

/-- What a label must pass for steps 1 to 7 to go on to the tables (R106). -/
def Record.Passes (policy : MarkPolicy) (r : Record) (e : LaneEntry) (matched : Option OverrideAction) : Prop :=
  r.tail = false ∧ matched ≠ some .forceReject ∧ r.cls = .locked ∧ r.cut ≠ .late ∧ r.lateNext = false
    ∧ e.splice = false ∧ ¬(r.origin = .predicted ∧ policy = .reject)
    ∧ ¬(e.defect = true ∧ matched ≠ some .forceAccept)

/-- Steps 1 to 7 go on exactly where the label passes each of them. -/
theorem recordSteps_eq_none_iff : recordSteps policy r e matched = none ↔ r.Passes policy e matched := by
  unfold recordSteps Record.Passes
  constructor
  · intro h
    split at h
    · cases h
    split at h
    · cases h
    split at h
    · cases h
    split at h
    · cases h
    split at h
    · cases h
    split at h
    · cases h
    split at h
    · cases h
    simp_all
  · rintro ⟨tail, reject, locked, cut, lateNext, splice, mark, defect⟩
    rw [if_neg (by simp [tail]), if_neg reject, if_neg (by simp [locked]), if_neg (by simp [cut, lateNext]),
      if_neg (by simp [splice]), if_neg mark, if_neg defect]

theorem recordSteps_tail (tail : r.tail = true) : recordSteps policy r e matched = some (.waste, .tail) :=
  if_pos tail

theorem recordSteps_forceReject (tail : r.tail = false) (reject : matched = some .forceReject) :
    recordSteps policy r e matched = some (.reject, .override) := by
  rw [recordSteps, if_neg (by simp [tail]), if_pos reject]

theorem recordSteps_unlocked (tail : r.tail = false) (accept : matched ≠ some .forceReject) (cls : r.cls ≠ .locked) :
    recordSteps policy r e matched = some (.waste, .registration) := by
  rw [recordSteps, if_neg (by simp [tail]), if_neg accept, if_pos cls]

/-- A locked record that fails any later step is a REJECT, whichever step comes first. -/
theorem recordSteps_locked (tail : r.tail = false) (cls : r.cls = .locked)
    (fails : r.cut = .late ∨ r.lateNext = true ∨ e.splice = true ∨ (r.origin = .predicted ∧ policy = .reject)
      ∨ (e.defect = true ∧ matched ≠ some .forceAccept)) :
    ∃ cause, recordSteps policy r e matched = some (.reject, cause) := by
  rw [recordSteps, if_neg (by simp [tail])]
  split
  · exact ⟨_, rfl⟩
  rw [if_neg (by simp [cls])]
  split
  · exact ⟨_, rfl⟩
  split
  · exact ⟨_, rfl⟩
  split
  · exact ⟨_, rfl⟩
  split
  · exact ⟨_, rfl⟩
  · simp_all

end

/-! ## The whole decision -/

section

variable {s : State} {r : Record} {k : Fin 8}

/-- The matched override of lane k of record r (R104). -/
abbrev State.matchedFor (s : State) (r : Record) (k : Fin 8) : Option OverrideAction :=
  s.disp.overrideFor r.serial k

/-- Steps 1 to 9 answer as the first of their three groups that answers. -/
theorem State.firstNineSteps_record {x : LabelOutcome × Cause}
    (h : recordSteps s.job.job.policy r r.lanes[k.val] (s.matchedFor r k) = some x) : s.firstNineSteps r k = some x := by
  rw [State.firstNineSteps, h]
  rfl

theorem State.firstNineSteps_table
    (h : recordSteps s.job.job.policy r r.lanes[k.val] (s.matchedFor r k) = none) {x : LabelOutcome × Cause}
    (table : s.disp.tableStep r.design k = some x) : s.firstNineSteps r k = some x := by
  rw [State.firstNineSteps, h, table]
  rfl

theorem State.firstNineSteps_lane
    (h : recordSteps s.job.job.policy r r.lanes[k.val] (s.matchedFor r k) = none)
    (table : s.disp.tableStep r.design k = none) : s.firstNineSteps r k = s.laneStep k := by
  rw [State.firstNineSteps, h, table]
  rfl

/-- An answer of steps 1 to 9 is the decision, and no state changes. -/
theorem State.decideLane_early {outcome : LabelOutcome} {cause : Cause}
    (h : s.firstNineSteps r k = some (outcome, cause)) :
    s.decideLane r k = ({ outcome := outcome, cause := some cause, ref := none }, s) := by
  rw [State.decideLane, h]

/-- Step 10: a gap label takes one from the gap counter. -/
theorem State.decideLane_gap (h : s.firstNineSteps r k = none) (gap : 0 < (s.lane k).gap) :
    s.decideLane r k = ({ outcome := .gap, cause := none, ref := none },
      s.onLane k fun l => { l with gap := l.gap - 1 }) := by
  rw [State.decideLane, h]
  exact if_pos gap

/-- What step 11's answer makes of a label (R108). -/
def AssignAnswer.decision : AssignAnswer → Decision
  | .stack n => { outcome := .stack, cause := none, ref := some n }
  | .gap => { outcome := .gap, cause := none, ref := none }
  | .listFull => { outcome := .divert, cause := some .listFull, ref := none }

/-- Step 11: the stacking unit's answer, and the change test behind it. -/
theorem State.decideLane_assign (h : s.firstNineSteps r k = none) (gap : (s.lane k).gap = 0) {answer : AssignAnswer}
    {l : StackLane} (assigned : (s.lane k).assign (s.cfg k) r.design = (answer, l)) :
    s.decideLane r k = (answer.decision, (s.onLane k fun _ => l).requestChange k) := by
  rw [State.decideLane, h]
  dsimp only
  rw [if_neg (by omega), assigned]
  cases answer <;> rfl

/-- The decision in its four ways: an answer of steps 1 to 9, a gap label, or an answer of step 11. -/
theorem State.decideLane_cases (s : State) (r : Record) (k : Fin 8) :
    (∃ outcome cause, s.firstNineSteps r k = some (outcome, cause)
        ∧ s.decideLane r k = ({ outcome := outcome, cause := some cause, ref := none }, s))
    ∨ (s.firstNineSteps r k = none ∧ 0 < (s.lane k).gap
        ∧ s.decideLane r k = ({ outcome := .gap, cause := none, ref := none },
            s.onLane k fun l => { l with gap := l.gap - 1 }))
    ∨ (s.firstNineSteps r k = none ∧ (s.lane k).gap = 0 ∧ ∃ answer l,
        (s.lane k).assign (s.cfg k) r.design = (answer, l)
        ∧ s.decideLane r k = (answer.decision, (s.onLane k fun _ => l).requestChange k)) := by
  rcases h : s.firstNineSteps r k with _ | ⟨outcome, cause⟩
  · rcases Nat.eq_zero_or_pos (s.lane k).gap with gap | gap
    · exact .inr (.inr ⟨rfl, gap, _, _, rfl, State.decideLane_assign h gap rfl⟩)
    · exact .inr (.inl ⟨rfl, gap, State.decideLane_gap h gap⟩)
  · exact .inl ⟨outcome, cause, rfl, State.decideLane_early h⟩

theorem Disposition.tableStep_cases (d : Disposition) (design : Nat) (k : Fin 8) :
    (d.tableStep design k = none ∧ d.resolve design k = some .stack)
      ∨ ∃ cause, d.tableStep design k = some (.waste, cause) := by
  unfold Disposition.tableStep
  split
  next h => exact .inl ⟨rfl, h⟩
  next => exact .inr ⟨_, rfl⟩
  next => exact .inr ⟨_, rfl⟩

theorem State.laneStep_eq_none_iff :
    s.laneStep k = none ↔ (s.cfg k).enabled = true ∧ (s.lane k).state = .ready := by
  unfold State.laneStep
  cases (s.cfg k).enabled <;> cases (s.lane k).state <;> simp

theorem recordSteps_outcome {policy : MarkPolicy} {e : LaneEntry} {matched : Option OverrideAction}
    {outcome : LabelOutcome} {cause : Cause} (h : recordSteps policy r e matched = some (outcome, cause)) :
    outcome = .waste ∨ outcome = .reject := by
  unfold recordSteps at h
  split_ifs at h
  all_goals
    obtain ⟨rfl, -⟩ := Prod.mk.inj (Option.some.inj h)
    simp

theorem State.laneStep_outcome {outcome : LabelOutcome} {cause : Cause} (h : s.laneStep k = some (outcome, cause)) :
    outcome = .divert := by
  unfold State.laneStep at h
  split_ifs at h
  all_goals exact (Prod.mk.inj (Option.some.inj h)).1.symm

/-- Steps 1 to 9 end in WASTE, REJECT or DIVERT, and go on only where each of them is passed. -/
theorem State.firstNineSteps_cases (s : State) (r : Record) (k : Fin 8) :
    (∃ outcome cause, s.firstNineSteps r k = some (outcome, cause)
        ∧ (outcome = .waste ∨ outcome = .reject ∨ outcome = .divert))
    ∨ (s.firstNineSteps r k = none ∧ r.Passes s.job.job.policy r.lanes[k.val] (s.matchedFor r k)
        ∧ s.disp.resolve r.design k = some .stack ∧ (s.cfg k).enabled = true ∧ (s.lane k).state = .ready) := by
  rcases hr : recordSteps s.job.job.policy r r.lanes[k.val] (s.matchedFor r k) with _ | ⟨outcome, cause⟩
  · rcases s.disp.tableStep_cases r.design k with ⟨table, resolved⟩ | ⟨cause, table⟩
    · have lane := State.firstNineSteps_lane hr table
      rcases hl : s.laneStep k with _ | ⟨outcome, cause⟩
      · exact .inr ⟨lane.trans hl, recordSteps_eq_none_iff.1 hr, resolved, State.laneStep_eq_none_iff.1 hl⟩
      · exact .inl ⟨outcome, cause, lane.trans hl, .inr (.inr (State.laneStep_outcome hl))⟩
    · exact .inl ⟨.waste, cause, State.firstNineSteps_table hr table, .inl rfl⟩
  · exact .inl ⟨outcome, cause, State.firstNineSteps_record hr,
      (recordSteps_outcome hr).imp_right .inl⟩

/-- A label is STACK only by step 11, which then gives it its stack. -/
theorem State.decideLane_stack (s : State) (r : Record) (k : Fin 8) (h : (s.decideLane r k).1.outcome = .stack) :
    r.Passes s.job.job.policy r.lanes[k.val] (s.matchedFor r k) ∧ s.disp.resolve r.design k = some .stack
      ∧ (s.cfg k).enabled = true ∧ (s.lane k).state = .ready ∧ (s.lane k).gap = 0
      ∧ (s.decideLane r k).1.ref.isSome = true := by
  rcases s.firstNineSteps_cases r k with ⟨outcome, cause, first, early⟩ | ⟨first, passes, resolved, enabled, ready⟩
  · rw [State.decideLane_early first] at h
    subst h
    rcases early with h | h | h <;> cases h
  · rcases s.decideLane_cases r k with ⟨_, _, other, -⟩ | ⟨-, -, gap⟩ | ⟨-, gap, answer, l, -, decided⟩
    · rw [first] at other
      cases other
    · rw [gap] at h
      cases h
    · rw [decided] at h ⊢
      refine ⟨passes, resolved, enabled, ready, gap, ?_⟩
      cases answer
      case stack n => rfl
      all_goals cases h

end

/-- Settles O36: each group of steps is answered by its own lemma, and step 11 by `decideLane_assign`. -/
theorem outcomesFollowTheSteps : Obligations.OutcomesFollowTheSteps := by
  intro s r k d t e matched passes table lane
  have early {outcome : LabelOutcome} {cause : Cause}
      (h : recordSteps s.job.job.policy r e matched = some (outcome, cause)) : d.outcome = outcome ∧ t = s := by
    have decided := State.decideLane_early (State.firstNineSteps_record h)
    exact ⟨congrArg (·.1.outcome) decided, congrArg Prod.snd decided⟩
  have rejects (tail : r.tail = false) (cls : r.cls = .locked)
      (fails : r.cut = .late ∨ r.lateNext = true ∨ e.splice = true
        ∨ (r.origin = .predicted ∧ s.job.job.policy = .reject)
        ∨ (e.defect = true ∧ matched ≠ some .forceAccept)) : d.outcome = .reject := by
    obtain ⟨cause, h⟩ := recordSteps_locked (policy := s.job.job.policy) (e := e) (matched := matched) tail cls fails
    exact (early h).1
  have on (h : passes) : recordSteps s.job.job.policy r e matched = none := recordSteps_eq_none_iff.2 h
  refine ⟨fun tail => (early (recordSteps_tail tail)).1,
    fun tail reject => (early (recordSteps_forceReject tail reject)).1,
    fun tail accept cls => (early (recordSteps_unlocked tail accept cls)).1, fun tail cls late => ?_,
    fun tail cls origin policy => ?_, fun tail cls defect accept => ?_, fun fails => ?_, fun h o c found => ?_,
    fun h found off => ?_, fun h found enabled => ⟨fun faulted => ?_, fun ready gap => ?_,
      fun ready gap answer l assigned => ?_⟩, fun stacked => ?_⟩
  · exact rejects tail cls (by tauto)
  · exact rejects tail cls (.inr (.inr (.inr (.inl ⟨origin, policy⟩))))
  · exact rejects tail cls (.inr (.inr (.inr (.inr ⟨defect, accept⟩))))
  · rcases hr : recordSteps s.job.job.policy r e matched with _ | ⟨outcome, cause⟩
    · exact absurd (recordSteps_eq_none_iff.1 hr) fails
    · exact (early hr).2
  · have decided := State.decideLane_early (State.firstNineSteps_table (on h) found)
    refine ⟨?_, ?_, congrArg Prod.snd decided⟩
    · rcases s.disp.tableStep_cases r.design k with ⟨other, -⟩ | ⟨cause, waste⟩
      · exact nomatch found.symm.trans other
      · exact (Prod.mk.inj (Option.some.inj (found.symm.trans waste))).1
    · rcases s.disp.tableStep_cases r.design k with ⟨other, -⟩ | ⟨cause, waste⟩
      · exact nomatch found.symm.trans other
      · obtain ⟨rfl, -⟩ := Prod.mk.inj (Option.some.inj (found.symm.trans waste))
        exact congrArg Prod.fst decided
  · have first : s.firstNineSteps r k = some (.divert, .disabled) :=
      (State.firstNineSteps_lane (on h) found).trans (if_pos off)
    exact ⟨congrArg Prod.fst (State.decideLane_early first), congrArg Prod.snd (State.decideLane_early first)⟩
  · have first : s.firstNineSteps r k = some (.divert, .fault) :=
      (State.firstNineSteps_lane (on h) found).trans ((if_neg (by simp [enabled])).trans (if_pos faulted))
    exact ⟨congrArg Prod.fst (State.decideLane_early first), congrArg Prod.snd (State.decideLane_early first)⟩
  · have first := (State.firstNineSteps_lane (on h) found).trans (State.laneStep_eq_none_iff.2 ⟨enabled, ready⟩)
    have decided := State.decideLane_gap first gap
    exact ⟨congrArg Prod.fst decided, congrArg Prod.snd decided⟩
  · have first := (State.firstNineSteps_lane (on h) found).trans (State.laneStep_eq_none_iff.2 ⟨enabled, ready⟩)
    have decided := State.decideLane_assign first gap assigned
    refine ⟨congrArg Prod.snd decided, (congrArg Prod.fst decided).trans ?_⟩
    cases answer <;> rfl
  · obtain ⟨⟨tail, accept, cls, cut, lateNext, splice, mark, defect⟩, resolved, enabled, ready, gap, ref⟩ :=
      s.decideLane_stack r k stacked
    refine ⟨tail, accept, cls, cut, lateNext, splice, fun origin => ?_, fun h => by_contra fun other => defect ⟨h, other⟩,
      resolved, enabled, ready, gap, ref⟩
    cases policy : s.job.job.policy with
    | stack => rfl
    | reject => exact absurd ⟨origin, policy⟩ mark

/-! ## Gate items -/

/-- The most recent item of a lane is the last of its items in the queue. -/
theorem reverse_find?_lane (q : List GateItem) (k : Fin 8) :
    q.reverse.find? (·.lane == k) = (q.filter (·.lane == k)).getLast? := by
  rw [← List.head?_filter, List.filter_reverse, List.head?_reverse]

theorem coalescable_eq (q : List GateItem) (k : Fin 8) (serial : Word) :
    coalescable q k serial = (q.filter (·.lane == k)).getLast?.any (·.last == serial - 1#32) := by
  rw [coalescable, reverse_find?_lane]
  cases (q.filter (·.lane == k)).getLast? <;> rfl

/-- A queue has no item of a lane, or its most recent one stands before items of other lanes only. -/
theorem gate_split (q : List GateItem) (k : Fin 8) :
    (∀ x ∈ q, x.lane ≠ k) ∨ ∃ before g after, q = before ++ g :: after ∧ g.lane = k ∧ ∀ x ∈ after, x.lane ≠ k := by
  induction q with
  | nil => exact .inl (by simp)
  | cons x q ih =>
    rcases ih with none_left | ⟨before, g, after, rfl, hg, others⟩
    · by_cases hx : x.lane = k
      · exact .inr ⟨[], x, q, rfl, hx, none_left⟩
      · exact .inl (List.forall_mem_cons.2 ⟨hx, none_left⟩)
    · exact .inr ⟨x :: before, g, after, rfl, hg, others⟩

theorem filter_lane_none {q : List GateItem} {k : Fin 8} (h : ∀ x ∈ q, x.lane ≠ k) : q.filter (·.lane == k) = [] :=
  List.filter_eq_nil_iff.2 (by simpa using h)

theorem filter_lane_split {before after : List GateItem} {g : GateItem} {k : Fin 8} (hg : g.lane = k)
    (others : ∀ x ∈ after, x.lane ≠ k) :
    (before ++ g :: after).filter (·.lane == k) = before.filter (·.lane == k) ++ [g] := by
  rw [List.filter_append, List.filter_cons_of_pos (by simp [hg]), filter_lane_none others]

theorem coalescable_split {before after : List GateItem} {g : GateItem} {k : Fin 8} (hg : g.lane = k)
    (others : ∀ x ∈ after, x.lane ≠ k) (serial : Word) :
    coalescable (before ++ g :: after) k serial = (g.last == serial - 1#32) := by
  rw [coalescable_eq, filter_lane_split hg others]
  simp

theorem coalescable_none {q : List GateItem} {k : Fin 8} (h : ∀ x ∈ q, x.lane ≠ k) (serial : Word) :
    coalescable q k serial = false := by
  rw [coalescable_eq, filter_lane_none h]
  rfl

/-- R113: the item extended is the most recent of the lane, in its place. -/
theorem extendItem_split {before after : List GateItem} {g : GateItem} {k : Fin 8} (hg : g.lane = k)
    (others : ∀ x ∈ after, x.lane ≠ k) (closePos serial : Word) :
    extendItem k closePos serial (before ++ g :: after)
      = before ++ { g with closePos := closePos, last := serial } :: after := by
  induction before with
  | nil => exact if_pos ⟨hg, by simpa using others⟩
  | cons x before ih =>
    have later : ¬(x.lane = k ∧ (before ++ g :: after).all (·.lane != k) = true) := by
      simp [hg]
    rw [List.cons_append, extendItem, if_neg later, ih]
    rfl

theorem State.gateLabel_joins {s : State} {serial : Word} {k : Fin 8}
    (h : coalescable s.sched.gate k serial = false) (cutLine labelEnd : Word) :
    s.gateLabel serial cutLine labelEnd k = s.onSched fun q => { q with
      gate := q.gate ++ [{ lane := k, openPos := s.gateOpen cutLine k, closePos := s.gateClose labelEnd k,
                           first := serial, last := serial }] } := by
  rw [State.gateLabel, State.onSched, State.onSched, h]
  rfl

theorem State.gateLabel_extends {s : State} {serial : Word} {k : Fin 8}
    (h : coalescable s.sched.gate k serial = true) (cutLine labelEnd : Word) :
    s.gateLabel serial cutLine labelEnd k = s.onSched fun q => { q with
      gate := extendItem k (s.gateClose labelEnd k) serial q.gate } := by
  rw [State.gateLabel, State.onSched, State.onSched, h]
  rfl

/-- Settles O39: the most recent item of the lane decides whether there is one to extend. -/
theorem gateItemsExtendOrJoin : Obligations.GateItemsExtendOrJoin := by
  intro s serial cutLine labelEnd k openPos closePos
  refine ⟨fun before after g hq hg others follows => ?_, fun none_follows => ?_⟩
  · have coalesces : coalescable s.sched.gate k serial = true := by
      rw [hq, coalescable_split hg others]
      simpa using follows
    rw [State.gateLabel_extends coalesces, ← extendItem_split hg others, ← hq]
    rfl
  · have joins : coalescable s.sched.gate k serial = false := by
      rcases gate_split s.sched.gate k with none_waits | ⟨before, g, after, hq, hg, others⟩
      · exact coalescable_none none_waits serial
      · rw [hq, coalescable_split hg others]
        simpa using none_follows before after g hq hg others
    rw [State.gateLabel_joins joins]
    rfl

end Sys2Proof.Machine
end

section
/-! The ladder of an offer, the slots it sends, the knife commands and the measurements. -/

namespace Sys2Proof.Machine

/-! ## The ladder (R143, R148) -/

/-- The queue that stands first in the order GATE, STACK, NOTICE among those a test takes. -/
theorem sources_find?_eq_some {p : Source → Bool} {place : Source → Nat}
    (order : place .gate = 0 ∧ place .stack = 1 ∧ place .notice = 2) {x : Source} (hx : p x = true)
    (first : ∀ y, place y < place x → p y = false) : sources.find? p = some x := by
  obtain ⟨gate, stack, notice⟩ := order
  cases x with
  | gate => simp [sources, hx]
  | stack =>
    have before := first .gate (by omega)
    simp [sources, hx, before]
  | notice =>
    have beforeGate := first .gate (by omega)
    have beforeStack := first .stack (by omega)
    simp [sources, hx, beforeGate, beforeStack]

theorem sources_find?_eq_none {p : Source → Bool} : sources.find? p = none ↔ ∀ x, p x = false := by
  constructor
  · intro h x
    have all := List.find?_eq_none.1 h
    cases x
    all_goals simpa using all _ (by simp [sources])
  · exact fun h => List.find?_eq_none.2 fun x _ => by simp [h x]

section

variable {q : Scheduler}

theorem Scheduler.choose_strict {x : Source} (h : q.strictChoice = some x) : q.choose = (some x, q) := by
  rw [Scheduler.choose, h]

theorem Scheduler.choose_ratio (none_strict : q.strictChoice = none) {x : Source} (h : q.ratioChoice = some x) :
    q.choose = (some x, q.spend x) := by
  rw [Scheduler.choose, none_strict, h]

theorem Scheduler.choose_reloaded (none_strict : q.strictChoice = none) (none_credit : q.ratioChoice = none)
    (waits : q.ratioWaits = true) {x : Source} (h : q.reload.ratioChoice = some x) :
    q.choose = (some x, q.reload.spend x) := by
  rw [Scheduler.choose, none_strict, none_credit]
  dsimp only
  rw [if_pos waits, h]

theorem Scheduler.choose_idle (none_strict : q.strictChoice = none) (none_credit : q.ratioChoice = none)
    (none_waits : q.ratioWaits = false) : q.choose = (none, q) := by
  rw [Scheduler.choose, none_strict, none_credit]
  exact if_neg (by simp [none_waits])

/-- A reload gives every RATIO queue its weight, and touches nothing that the choice reads besides. -/
theorem Scheduler.reload_facts (x : Source) :
    q.reload.waiting x = q.waiting x ∧ q.reload.entry x = q.entry x ∧ q.reload.credit x = (q.entry x).reload := by
  cases x <;> exact ⟨rfl, rfl, rfl⟩

theorem Scheduler.entry_mem (x : Source) : q.entry x ∈ q.table.toList := by
  cases x <;> simp [Scheduler.entry]

theorem Scheduler.strictChoice_eq_none_iff :
    q.strictChoice = none ↔ ∀ x, q.waiting x = true → (q.entry x).mode = .ratio := by
  rw [Scheduler.strictChoice, sources_find?_eq_none]
  refine forall_congr' fun x => ?_
  cases q.waiting x <;> cases (q.entry x).mode <;> simp

theorem Scheduler.ratioWaits_iff : q.ratioWaits = true ↔ ∃ x, q.waiting x = true ∧ (q.entry x).mode = .ratio := by
  simp only [Scheduler.ratioWaits, List.any_eq_true, Bool.and_eq_true, beq_iff_eq]
  constructor
  · exact fun ⟨x, _, h⟩ => ⟨x, h⟩
  · exact fun ⟨x, h⟩ => ⟨x, by cases x <;> simp [sources], h⟩

/-- After a reload some waiting RATIO queue has credit, if weights are at least 1. -/
theorem Scheduler.reload_ratioChoice_isSome (weights : ∀ e ∈ q.table.toList, 1 ≤ e.weight) (waits : q.ratioWaits = true) :
    ∃ x, q.reload.ratioChoice = some x := by
  obtain ⟨x, waiting, ratio⟩ := Scheduler.ratioWaits_iff.1 waits
  obtain ⟨sameWaiting, sameEntry, credit⟩ := q.reload_facts x
  by_contra none_chosen
  have none_found : q.reload.ratioChoice = none := by
    rcases h : q.reload.ratioChoice with _ | y
    · rfl
    · exact absurd ⟨y, h⟩ none_chosen
  rw [Scheduler.ratioChoice, sources_find?_eq_none] at none_found
  have weight := weights _ (q.entry_mem x)
  have refused := none_found x
  rw [sameWaiting, sameEntry, credit, waiting, ratio, SchedEntry.reload, if_pos ratio] at refused
  simp at refused
  omega

theorem find?_waits {p : Source → Bool} {x : Source} (h : sources.find? p = some x)
    (waits : ∀ y, p y = true → q.waiting y = true) : q.waiting x = true :=
  waits x (List.find?_some h)

/-- The ladder in its four ways. -/
theorem Scheduler.choose_cases (weights : ∀ e ∈ q.table.toList, 1 ≤ e.weight) :
    (∃ x, q.choose.1 = some x ∧ q.waiting x = true) ∨ (q.choose = (none, q) ∧ ∀ x, q.waiting x = false) := by
  rcases hs : q.strictChoice with _ | x
  · rcases hr : q.ratioChoice with _ | x
    · rcases hw : q.ratioWaits with _ | _
      · refine .inr ⟨Scheduler.choose_idle hs hr hw, fun x => ?_⟩
        by_contra waits
        have waits : q.waiting x = true := by simpa using waits
        exact absurd (Scheduler.ratioWaits_iff.2 ⟨x, waits, Scheduler.strictChoice_eq_none_iff.1 hs x waits⟩)
          (by simp [hw])
      · obtain ⟨x, hx⟩ := Scheduler.reload_ratioChoice_isSome weights hw
        refine .inl ⟨x, congrArg Prod.fst (Scheduler.choose_reloaded hs hr hw hx), find?_waits hx fun y hy => ?_⟩
        simp only [Bool.and_eq_true] at hy
        exact (q.reload_facts y).1.symm.trans hy.1.1
    · refine .inl ⟨x, congrArg Prod.fst (Scheduler.choose_ratio hs hr), find?_waits hr fun y hy => ?_⟩
      simp only [Bool.and_eq_true] at hy
      exact hy.1.1
  · refine .inl ⟨x, congrArg Prod.fst (Scheduler.choose_strict hs), find?_waits hs fun y hy => ?_⟩
    simp only [Bool.and_eq_true] at hy
    exact hy.1

end

/-- Settles O49: the choice by `choose_cases`, its order by the first source that a test takes. -/
theorem ladderChoosesAWaitingQueue : Obligations.LadderChoosesAWaitingQueue := by
  intro q weights place spent loaded reloaded
  have order : place .gate = 0 ∧ place .stack = 1 ∧ place .notice = 2 := ⟨rfl, rfl, rfl⟩
  have empty : (∀ x, q.waiting x = false) ↔ q.gate = [] ∧ q.stack = [] ∧ q.notices = [] := by
    constructor
    · intro h
      exact ⟨by simpa [Scheduler.waiting] using h .gate, by simpa [Scheduler.waiting] using h .stack,
        by simpa [Scheduler.waiting] using h .notice⟩
    · rintro ⟨gate, stack, notices⟩ x
      cases x <;> simp [Scheduler.waiting, gate, stack, notices]
  refine ⟨fun x => ⟨?_, ?_, ?_⟩, ⟨fun h => ?_, fun h => ?_⟩, fun h => ?_, fun x h => ?_, fun x waits strict first => ?_,
    fun ratios => ⟨fun x waits credit first => ?_, fun x waits spentOut first => ?_⟩⟩
  · cases x <;> simp [Scheduler.waiting]
  · cases x <;> rfl
  · cases x <;> rfl
  · rcases Scheduler.choose_cases weights with ⟨x, hx, -⟩ | ⟨-, idle⟩
    · exact nomatch hx.symm.trans h
    · exact empty.1 idle
  · rcases Scheduler.choose_cases weights with ⟨x, -, waits⟩ | ⟨chosen, -⟩
    · rw [empty.2 h x] at waits
      cases waits
    · rw [chosen]
  · rcases Scheduler.choose_cases weights with ⟨x, hx, -⟩ | ⟨chosen, -⟩
    · exact nomatch hx.symm.trans h
    · rw [chosen]
  · rcases Scheduler.choose_cases weights with ⟨y, hy, waits⟩ | ⟨chosen, -⟩
    · rwa [Option.some.inj (h.symm.trans hy)]
    · rw [chosen] at h
      cases h
  · refine Scheduler.choose_strict (sources_find?_eq_some order (by simp [waits, strict]) fun y before => ?_)
    cases waiting : q.waiting y
    · rfl
    · simp [first y before waiting]
  · have none_strict : q.strictChoice = none := Scheduler.strictChoice_eq_none_iff.2 ratios
    have chosen : q.ratioChoice = some x :=
      sources_find?_eq_some order (by simp [waits, ratios x waits, credit]) fun y before => by
        cases waiting : q.waiting y
        · rfl
        · simp [first y before waiting]
    rw [Scheduler.choose_ratio none_strict chosen]
    cases x <;> rfl
  · have none_strict : q.strictChoice = none := Scheduler.strictChoice_eq_none_iff.2 ratios
    have none_credit : q.ratioChoice = none := sources_find?_eq_none.2 fun y => by
      cases waiting : q.waiting y
      · rfl
      · simp [spentOut y waiting]
    have weight := weights _ (q.entry_mem x)
    have chosen : q.reload.ratioChoice = some x :=
      sources_find?_eq_some order
        (by
          obtain ⟨sameWaiting, sameEntry, credit⟩ := q.reload_facts x
          rw [sameWaiting, sameEntry, credit, SchedEntry.reload, if_pos (ratios x waits)]
          simp [waits, ratios x waits]
          omega)
        fun y before => by simp [(q.reload_facts y).1, first y before]
    rw [Scheduler.choose_reloaded none_strict none_credit (Scheduler.ratioWaits_iff.2 ⟨x, waits, ratios x waits⟩) chosen]
    cases x <;> rfl

end Sys2Proof.Machine
end

section
/-! What a merge chooses (R73, R74): the choice among the listed zones, and O28. -/

namespace Sys2Proof.Machine

/-! ## Positions within half a circle -/

/-- Each at or beyond the other: the same position. -/
theorem eq_of_atOrBeyond_both {a b : Word} (hab : atOrBeyond a b = true) (hba : atOrBeyond b a = true) : a = b := by
  simp only [atOrBeyond, decide_eq_true_eq] at hab hba
  bv_omega

/-- Among positions within half a circle of a base, beyond is the order of the distances from it (log entry 9). -/
theorem beyond_iff_of_base {a b base : Word} (ha : (a - base).toNat < 2147483648)
    (hb : (b - base).toNat < 2147483648) : beyond a b = true ↔ (b - base).toNat < (a - base).toNat := by
  rw [beyond_iff, atOrBeyond, decide_eq_true_eq]
  constructor
  · rintro ⟨hab, hne⟩
    bv_omega
  · intro h
    exact ⟨by bv_omega, by rintro rfl; omega⟩

/-! ## The choice -/

section choice
variable {z : Zone} {candidate : Zone → Bool}

/-- Zone b, at place i of the list, is the one that R73 chooses for the new zone z among the candidates. -/
structure Chosen (z : Zone) (candidate : Zone → Bool) (zs : List Zone) (i : Nat) (b : Zone) : Prop where
  place : zs[i]? = some b
  fits : candidate b = true
  least : ∀ x ∈ zs, candidate x = true → zoneDistance z b ≤ zoneDistance z x
  lowest : ∀ base : Word, (∀ x ∈ zs, (x.lo - base).toNat < 2147483648) →
    ∀ (j : Nat) (x : Zone), zs[j]? = some x → candidate x = true → zoneDistance z x = zoneDistance z b →
      (b.lo - base).toNat ≤ (x.lo - base).toNat ∧ (x.lo = b.lo → i ≤ j)

theorem choosesOver_iff (b y : Zone) : choosesOver z b y = true ↔
    zoneDistance z y < zoneDistance z b
      ∨ (zoneDistance z y = zoneDistance z b ∧ beyond b.lo y.lo = true) := by
  by_cases h : zoneDistance z y < zoneDistance z b <;> simp [choosesOver, h]

theorem getElem?_append_singleton_cases {zs : List Zone} {y x : Zone} {j : Nat} (h : (zs ++ [y])[j]? = some x) :
    zs[j]? = some x ∨ (j = zs.length ∧ x = y) := by
  rcases Nat.lt_or_ge j zs.length with hj | hj
  · exact .inl (by rwa [List.getElem?_append_left hj] at h)
  · rw [List.getElem?_append_right hj] at h
    have : j - zs.length = 0 := by
      by_contra hne
      rw [List.getElem?_eq_none (by simp; omega)] at h
      cases h
    exact .inr ⟨by omega, by simpa [this] using h.symm⟩

/-- A zone that is no candidate, or is not chosen over the choice, leaves it. -/
theorem Chosen.keep {zs : List Zone} {i : Nat} {b y : Zone} (h : Chosen z candidate zs i b)
    (hy : ¬(candidate y = true ∧ choosesOver z b y = true)) : Chosen z candidate (zs ++ [y]) i b where
  place := by
    obtain ⟨hi, -⟩ := List.getElem?_eq_some_iff.1 h.place
    rw [List.getElem?_append_left hi, h.place]
  fits := h.fits
  least x hx hc := by
    rcases List.mem_append.1 hx with hx | hx
    · exact h.least x hx hc
    · obtain rfl := List.mem_singleton.1 hx
      have : ¬choosesOver z b x = true := fun hch => hy ⟨hc, hch⟩
      rw [choosesOver_iff] at this
      omega
  lowest base hb j x hx hc hd := by
    rcases getElem?_append_singleton_cases hx with hx | ⟨rfl, rfl⟩
    · exact h.lowest base (fun x hx => hb x (List.mem_append_left _ hx)) j x hx hc hd
    · have hover : ¬choosesOver z b x = true := fun hch => hy ⟨hc, hch⟩
      obtain ⟨hi, hbi⟩ := List.getElem?_eq_some_iff.1 h.place
      have hbm : b ∈ zs := hbi ▸ List.getElem_mem hi
      rw [choosesOver_iff, beyond_iff_of_base (hb b (List.mem_append_left _ hbm)) (hb x (by simp))] at hover
      exact ⟨by omega, fun _ => hi.le⟩

/-- A candidate chosen over the choice so far takes its place. -/
theorem Chosen.replace {zs : List Zone} {i : Nat} {b y : Zone} (h : Chosen z candidate zs i b)
    (hc : candidate y = true) (hy : choosesOver z b y = true) : Chosen z candidate (zs ++ [y]) zs.length y where
  place := by simp
  fits := hc
  least x hx hcx := by
    rw [choosesOver_iff] at hy
    rcases List.mem_append.1 hx with hx | hx
    · have := h.least x hx hcx
      omega
    · rw [List.mem_singleton.1 hx]
  lowest base hb j x hx hcx hd := by
    rcases getElem?_append_singleton_cases hx with hx | ⟨rfl, rfl⟩
    · obtain ⟨hj, hxj⟩ := List.getElem?_eq_some_iff.1 hx
      have hxm : x ∈ zs := hxj ▸ List.getElem_mem hj
      obtain ⟨hi, hbi⟩ := List.getElem?_eq_some_iff.1 h.place
      have hbm : b ∈ zs := hbi ▸ List.getElem_mem hi
      have least := h.least x hxm hcx
      rw [choosesOver_iff, beyond_iff_of_base (hb b (List.mem_append_left _ hbm)) (hb y (by simp))] at hy
      have tie : zoneDistance z x = zoneDistance z b := by omega
      have low := (h.lowest base (fun x hx => hb x (List.mem_append_left _ hx)) j x hx hcx tie).1
      exact ⟨by omega, fun e => absurd (by rw [e] : (x.lo - base).toNat = (y.lo - base).toNat) (by omega)⟩
    · exact ⟨le_rfl, fun _ => le_rfl⟩

/-- The first candidate is chosen where there was none. -/
theorem Chosen.first {zs : List Zone} {y : Zone} (none_before : ∀ x ∈ zs, candidate x = false)
    (hc : candidate y = true) : Chosen z candidate (zs ++ [y]) zs.length y where
  place := by simp
  fits := hc
  least x hx hcx := by
    rcases List.mem_append.1 hx with hx | hx
    · simp [none_before x hx] at hcx
    · rw [List.mem_singleton.1 hx]
  lowest base _ j x hx hcx _ := by
    rcases getElem?_append_singleton_cases hx with hx | ⟨rfl, rfl⟩
    · obtain ⟨hj, hxj⟩ := List.getElem?_eq_some_iff.1 hx
      simp [none_before x (hxj ▸ List.getElem_mem hj)] at hcx
    · exact ⟨le_rfl, fun _ => le_rfl⟩

/-- What `nearest` holds after the zones passed: the choice among them, or none where none is a candidate. -/
def ChosenSoFar (z : Zone) (candidate : Zone → Bool) (passed : List Zone) : Option (Nat × Zone) → Prop
  | none => ∀ x ∈ passed, candidate x = false
  | some (i, b) => Chosen z candidate passed i b

theorem nearest_chosen (ys : List Zone) : ∀ (passed : List Zone) (best : Option (Nat × Zone)),
    ChosenSoFar z candidate passed best →
    ChosenSoFar z candidate (passed ++ ys) (nearest z candidate passed.length best ys) := by
  induction ys with
  | nil => intro passed best h; simpa [nearest] using h
  | cons y ys ih =>
    intro passed best h
    have length : passed.length + 1 = (passed ++ [y]).length := by simp
    rw [show passed ++ y :: ys = (passed ++ [y]) ++ ys by simp]
    simp only [nearest]
    rw [length]
    refine ih (passed ++ [y]) _ ?_
    rcases best with _ | ⟨i, b⟩
    · by_cases hc : candidate y = true
      · simp only [hc, if_true]
        exact Chosen.first h hc
      · simp only [hc]
        intro x hx
        rcases List.mem_append.1 hx with hx | hx
        · exact h x hx
        · rw [List.mem_singleton.1 hx]
          simpa using hc
    · by_cases hc : candidate y = true ∧ choosesOver z b y = true
      · simp only [hc.1, hc.2, Bool.and_self, if_true]
        exact Chosen.replace h hc.1 hc.2
      · dsimp only
        rw [if_neg (by simpa using hc)]
        exact Chosen.keep h hc

end choice

/-- R73: a list that is not empty has a choice, among the zones of the new zone's kind if it holds one. -/
theorem mergeChoice_chosen (z : Zone) (zs : List Zone) (nonempty : zs ≠ []) :
    ∃ i y candidate, mergeChoice z zs = some (i, y) ∧ Chosen z candidate zs i y
      ∧ ∀ x ∈ zs, candidate x = true ↔ x.kind = z.kind ∨ ∀ w ∈ zs, w.kind ≠ z.kind := by
  have choose : ∀ candidate : Zone → Bool, (∃ x ∈ zs, candidate x = true) →
      ∃ i y, nearest z candidate 0 none zs = some (i, y) ∧ Chosen z candidate zs i y := by
    rintro candidate ⟨x, hx, hcx⟩
    have chosen := nearest_chosen (z := z) (candidate := candidate) zs [] none (by simp [ChosenSoFar])
    simp only [List.nil_append, List.length_nil] at chosen
    rcases hn : nearest z candidate 0 none zs with _ | ⟨i, y⟩
    · rw [hn] at chosen
      simp [chosen x hx] at hcx
    · rw [hn] at chosen
      exact ⟨i, y, rfl, chosen⟩
  unfold mergeChoice
  by_cases hk : zs.any (·.kind == z.kind) = true
  · rw [if_pos hk]
    have some_kind : ∃ x ∈ zs, x.kind = z.kind := by simpa using hk
    obtain ⟨i, y, hn, chosen⟩ := choose (·.kind == z.kind) (by simpa using hk)
    refine ⟨i, y, _, hn, chosen, fun x _ => ?_⟩
    obtain ⟨w, hw, hwk⟩ := some_kind
    simp only [beq_iff_eq]
    exact ⟨.inl, fun h => h.resolve_right fun none_kind => none_kind w hw hwk⟩
  · rw [if_neg hk]
    obtain ⟨x, xs, rfl⟩ := List.exists_cons_of_ne_nil nonempty
    obtain ⟨i, y, hn, chosen⟩ := choose (fun _ => true) ⟨x, by simp, rfl⟩
    exact ⟨i, y, _, hn, chosen, fun w _ => by simpa using .inr (by simpa using hk)⟩

/-! ## The merged zone -/

theorem earlierBound_new {new listed : Word} (h : atOrBeyond listed new = true) : earlierBound new listed = new :=
  if_pos h

theorem earlierBound_listed {new listed : Word} (h : atOrBeyond new listed = true) :
    earlierBound new listed = listed := by
  unfold earlierBound
  by_cases hn : atOrBeyond listed new = true
  · rw [if_pos hn, eq_of_atOrBeyond_both h hn]
  · rw [if_neg hn, if_pos h]

theorem laterBound_new {new listed : Word} (h : atOrBeyond new listed = true) : laterBound new listed = new :=
  if_pos h

theorem laterBound_listed {new listed : Word} (h : atOrBeyond listed new = true) :
    laterBound new listed = listed := by
  unfold laterBound
  by_cases hn : atOrBeyond new listed = true
  · rw [if_pos hn, eq_of_atOrBeyond_both h hn]
  · rw [if_neg hn, if_pos h]

/-- R72 to R74: in a full list the zone merges with the one chosen. -/
theorem State.listZone_of_full (z : Zone) (s : State) (full : s.track.zones.length = 64) :
    ∃ i y candidate, Chosen z candidate s.track.zones i y
      ∧ (∀ x ∈ s.track.zones, candidate x = true ↔ x.kind = z.kind ∨ ∀ w ∈ s.track.zones, w.kind ≠ z.kind)
      ∧ s.listZone z = (({ s with track := { s.track with
          zones := insertZone (mergedZone z y) (s.track.zones.eraseIdx i)
          zoneMerge := satInc s.track.zoneMerge } } : State).notify .zoneMerge none (mergedZone z y).lo) := by
  obtain ⟨i, y, candidate, choice, chosen, candidates⟩ := mergeChoice_chosen z s.track.zones (by
    intro e; simp [e] at full)
  refine ⟨i, y, candidate, chosen, candidates, ?_⟩
  rw [State.listZone, if_neg (by simp [Config.zoneCapacity, full]), choice]
  rfl

theorem insertZone_eraseIdx_length (m : Zone) {zs : List Zone} {i : Nat} {y : Zone} (h : zs[i]? = some y) :
    (insertZone m (zs.eraseIdx i)).length = zs.length := by
  obtain ⟨hi, -⟩ := List.getElem?_eq_some_iff.1 h
  rw [insertZone_length, List.length_eraseIdx_of_lt hi]
  omega

theorem zoneDistance_overlap {z y : Zone} (h : atOrBeyond y.hi z.lo = true ∧ atOrBeyond z.hi y.lo = true) :
    zoneDistance z y = 0 := by
  simp [zoneDistance, h]

theorem zoneDistance_bothBeyond {z y : Zone} (apart : ¬(atOrBeyond y.hi z.lo = true ∧ atOrBeyond z.hi y.lo = true))
    (above : beyond y.lo z.hi = true) (below : beyond z.lo y.hi = true) :
    zoneDistance z y = (y.lo - z.hi).toNat ∨ zoneDistance z y = (z.lo - y.hi).toNat := by
  unfold zoneDistance
  by_cases free : Config.mergeMeasuresUp z.lo z.hi y.lo y.hi = true <;> simp [apart, above, below, free]

/-- Settles O28: the choice by the fold over the list, the merged zone by its bounds. -/
theorem fullListMerges : Obligations.FullListMerges := by
  unfold Obligations.FullListMerges
  refine ⟨fun z y => ⟨zoneDistance_overlap, zoneDistance_above z y, zoneDistance_below z y,
    zoneDistance_bothBeyond⟩, fun z s full => ?_⟩
  obtain ⟨i, y, candidate, chosen, candidates, merges⟩ := s.listZone_of_full z full
  obtain ⟨hi, hyi⟩ := List.getElem?_eq_some_iff.1 chosen.place
  have hy : y ∈ s.track.zones := hyi ▸ List.getElem_mem hi
  refine ⟨i, y, mergedZone z y, chosen.place, (candidates y hy).1 chosen.fits,
    fun x hx hc => chosen.least x hx ((candidates x hx).2 hc), fun base hb j x hx hc hd => ?_,
    fun h => ?_, fun h => ?_, fun h => ?_, fun h => ?_, fun h => earlierBound_new h, fun h => earlierBound_listed h,
    fun h => laterBound_new h, fun h => laterBound_listed h,
    (insertZone_eraseIdx_length _ chosen.place).trans full, merges⟩
  · obtain ⟨hj, hxj⟩ := List.getElem?_eq_some_iff.1 hx
    exact chosen.lowest base hb j x hx ((candidates x (hxj ▸ List.getElem_mem hj)).2 hc) hd
  · simp [mergedZone, h]
  · simp [mergedZone, Ne.symm h]
  · have defect : (mergedZone z y).kind ≠ .splice := by simp [h]
    exact if_neg defect
  · exact if_pos h

end Sys2Proof.Machine
end

section
/-! Touches: the small changes that a notice, a zone, late information and a closing make. What they leave alone is
said once, by a state with all that they may change erased; the operations that are made of them follow. -/

namespace Sys2Proof.Machine

/-! ## What is erased -/

/-- A record without the marks that events set in it: what its place in the queue rests on stays. -/
def Record.unmarked (r : Record) : Record :=
  { r with cut := .pending, cutLine := none, check := .unchecked, lateNext := false,
           lanes := r.lanes.map fun e => { e with defect := false, splice := false } }

/-- A record without its marks and its nominal end. -/
def Record.bare (r : Record) : Record := { r.unmarked with nominalEnd := none }

/-- A lane without the suspect counts of its stacks. -/
def StackLane.unsuspected (l : StackLane) : StackLane :=
  { l with list := l.list.map fun r => { r with suspect := 0 } }

/-- A scheduler without its notices. -/
def Scheduler.unnoticed (q : Scheduler) : Scheduler := { q with notices := [], noticesDropped := 0#32 }

/-- The state without all that touches may change. -/
def State.untouched (s : State) : State := { s with
  track := { s.track with queue := s.track.queue.map Record.bare, zones := [], stale := 0#32, zoneMerge := 0#32 }
  disp := { s.disp with counters := s.disp.counters.map fun c => { c with lateInfo := 0#32 } }
  stk := { s.stk with lanes := s.stk.lanes.map StackLane.unsuspected }
  sched := s.sched.unnoticed }

@[simp] theorem Scheduler.notify_unnoticed (q : Scheduler) (kind : NoticeKind) (lane : Option (Fin 8)) (v : Word) :
    (q.notify kind lane v).unnoticed = q.unnoticed := by
  unfold Scheduler.notify
  split
  · rfl
  · split <;> rfl

theorem map_modAt_same {α β : Type} {n : Nat} (v : Vector α n) (k : Fin n) (f : α → α) (g : α → β)
    (h : g (f v[k.val]) = g v[k.val]) : (modAt v k f).map g = v.map g := by
  refine vector_ext_fin fun i => ?_
  rw [Vector.getElem_map, Vector.getElem_map, modAt_getElem]
  split
  · next e => simp only [e] at h; rw [← h]; simp only [e]
  · rfl

/-- A change by serial that keeps what g sees of a record keeps what it sees of the queue. -/
theorem State.onRecord_map {β : Type} (s : State) (n : Word) (f : Record → Record) (g : Record → β)
    (h : ∀ x, g (f x) = g x) : (s.onRecord n f).track.queue.map g = s.track.queue.map g := by
  simp only [State.onRecord, State.onTrack, List.map_map]
  refine List.map_congr_left fun x _ => ?_
  by_cases e : x.serial = n <;> simp [e, h]

theorem Record.bare_of_unmarked {a b : Record} (h : a.unmarked = b.unmarked) : a.bare = b.bare := by
  simp only [Record.bare, h]

@[simp] theorem chargeReceiving_unsuspected (l : List StackRec) :
    (chargeReceiving l).map (fun r => ({ r with suspect := 0 } : StackRec))
      = l.map fun r => { r with suspect := 0 } := by
  induction l with
  | nil => rfl
  | cons r rest ih => by_cases h : r.state = .changing <;> simp [chargeReceiving, h, ih]

/-- R129: late information changes no more of a lane than suspect counts. -/
theorem LaneEntry.lateMark_unsuspected (e : LaneEntry) (kind : LateKind) (l : StackLane) :
    (e.lateMark kind l).unsuspected = l.unsuspected := by
  have named : ∀ n : Nat, (l.list.map fun r =>
      if r.number = n ∧ r.state ≠ .changing then { r with suspect := r.suspect + 1 } else r).map
        (fun r => ({ r with suspect := 0 } : StackRec)) = l.list.map fun r => { r with suspect := 0 } := by
    intro n
    rw [List.map_map]
    exact List.map_congr_left fun r _ => by simp only [Function.comp_apply]; split <;> rfl
  unfold LaneEntry.lateMark StackLane.unsuspected
  split
  · simp
  · split
    · simp only [named]
    · rfl

/-! ## Touches -/

/-- One touch. The flag says whether it may close a record. -/
inductive Touch : Bool → State → State → Prop
  | notice (b : Bool) (s : State) (kind : NoticeKind) (lane : Option (Fin 8)) (value : Word) :
      Touch b s (s.notify kind lane value)
  | marks (b : Bool) (s : State) (n : Word) (f : Record → Record) (keeps : ∀ x, (f x).unmarked = x.unmarked) :
      Touch b s (s.onRecord n f)
  | closes (s : State) (n stop : Word) : Touch true s (s.onRecord n fun x => { x with nominalEnd := some stop })
  | informed (b : Bool) (s : State) (r : Record) (k : Fin 8) (kind : LateKind) :
      Touch b s (s.lateInformation r k kind)
  | zones (b : Bool) (s : State) (zones : List Zone) (stale merged : Word)
      (room : s.track.zones.length ≤ 64 → zones.length ≤ 64) :
      Touch b s { s with track := { s.track with zones := zones, stale := stale, zoneMerge := merged } }

/-- Touches one after another. -/
abbrev Touches (b : Bool) : State → State → Prop := Relation.ReflTransGen (Touch b)

theorem Touch.untouched {b : Bool} {s t : State} (h : Touch b s t) : t.untouched = s.untouched := by
  cases h with
  | notice =>
    unfold State.untouched State.notify State.onSched
    simp
  | marks _ _ n f keeps =>
    have same := s.onRecord_map n f Record.bare fun x => Record.bare_of_unmarked (keeps x)
    unfold State.untouched
    rw [same]
    rfl
  | closes _ n stop =>
    have same := s.onRecord_map n (fun x => { x with nominalEnd := some stop }) Record.bare fun _ => rfl
    unfold State.untouched
    rw [same]
    rfl
  | informed _ _ r k kind =>
    rw [State.lateInformation_eq]
    have counted := map_modAt_same s.disp.counters k (·.bump .lateInfo)
      (fun c => ({ c with lateInfo := 0#32 } : LaneCounters)) rfl
    have suspected := map_modAt_same s.stk.lanes k (r.lanes[k.val].lateMark kind) StackLane.unsuspected
      (LaneEntry.lateMark_unsuspected _ _ _)
    unfold State.untouched State.onLane State.onStk State.notify State.onSched State.charge State.onDisp
    simp [counted, suspected]
  | zones => rfl

theorem Touches.untouched {b : Bool} {s t : State} (h : Touches b s t) : t.untouched = s.untouched := by
  induction h with
  | refl => rfl
  | tail _ touch ih => exact touch.untouched.trans ih

section kept
variable {b : Bool} {s t : State}

theorem Touches.link (h : Touches b s t) : t.link = s.link := (congrArg State.link h.untouched :)
theorem Touches.reg (h : Touches b s t) : t.reg = s.reg := (congrArg State.reg h.untouched :)
theorem Touches.cut (h : Touches b s t) : t.cut = s.cut := (congrArg State.cut h.untouched :)
theorem Touches.job (h : Touches b s t) : t.job = s.job := (congrArg State.job h.untouched :)
theorem Touches.pending (h : Touches b s t) : t.pending = s.pending := (congrArg State.pending h.untouched :)
theorem Touches.cfg (h : Touches b s t) : t.stk.cfg = s.stk.cfg := (congrArg (·.stk.cfg) h.untouched :)
theorem Touches.disp (h : Touches b s t) : t.disp.disp = s.disp.disp := (congrArg (·.disp.disp) h.untouched :)
theorem Touches.overrides (h : Touches b s t) : t.disp.overrides = s.disp.overrides :=
  (congrArg (·.disp.overrides) h.untouched :)
theorem Touches.lateGates (h : Touches b s t) : t.disp.lateGates = s.disp.lateGates :=
  (congrArg (·.disp.lateGates) h.untouched :)
theorem Touches.knife (h : Touches b s t) : t.sched.knife = s.sched.knife :=
  (congrArg (·.sched.knife) h.untouched :)
theorem Touches.gate (h : Touches b s t) : t.sched.gate = s.sched.gate := (congrArg (·.sched.gate) h.untouched :)
theorem Touches.stack (h : Touches b s t) : t.sched.stack = s.sched.stack :=
  (congrArg (·.sched.stack) h.untouched :)
theorem Touches.pos (h : Touches b s t) : t.track.pos = s.track.pos := (congrArg (·.track.pos) h.untouched :)
theorem Touches.posHeld (h : Touches b s t) : t.track.posHeld = s.track.posHeld :=
  (congrArg (·.track.posHeld) h.untouched :)
theorem Touches.nextSerial (h : Touches b s t) : t.track.nextSerial = s.track.nextSerial :=
  (congrArg (·.track.nextSerial) h.untouched :)
theorem Touches.bare (h : Touches b s t) : t.track.queue.map Record.bare = s.track.queue.map Record.bare :=
  (congrArg (·.track.queue) h.untouched :)

/-- What is read of the records without their marks and ends stays. -/
theorem Touches.queue_map {β : Type} (h : Touches b s t) (g : Record → β) (hg : ∀ x, g x.bare = g x) :
    t.track.queue.map g = s.track.queue.map g := by
  have seen : ∀ q : List Record, q.map g = (q.map Record.bare).map g := fun q => by
    rw [List.map_map]
    exact List.map_congr_left fun x _ => (hg x).symm
  rw [seen, h.bare, ← seen]

theorem Touches.serials (h : Touches b s t) : t.track.queue.map (·.serial) = s.track.queue.map (·.serial) :=
  h.queue_map _ fun _ => rfl

theorem Touches.queue_length (h : Touches b s t) : t.track.queue.length = s.track.queue.length := by
  simpa using congrArg List.length h.serials

theorem Touches.lanesInUse (h : Touches b s t) : t.lanesInUse = s.lanesInUse := by
  rw [State.lanesInUse, State.lanesInUse, h.job]

end kept

/-- A touch that closes no record leaves every nominal end. -/
theorem Touches.unmarked {s t : State} (h : Touches false s t) :
    t.track.queue.map Record.unmarked = s.track.queue.map Record.unmarked := by
  induction h with
  | refl => rfl
  | @tail u v _ touch ih =>
    refine Eq.trans ?_ ih
    cases touch with
    | notice => rfl
    | marks _ _ n f keeps => exact u.onRecord_map n f _ keeps
    | informed _ _ r k kind => rw [State.lateInformation_eq]; rfl
    | zones => rfl

/-- Steps of a fold that are touches make touches. -/
theorem Touches.foldl {α : Type} {b : Bool} (f : State → α → State) (l : List α)
    (hf : ∀ s, ∀ x ∈ l, Touches b s (f s x)) (s : State) : Touches b s (l.foldl f s) := by
  induction l generalizing s with
  | nil => exact .refl
  | cons x xs ih =>
    exact (hf s x (by simp)).trans (ih (fun s y hy => hf s y (List.mem_cons_of_mem _ hy)) (f s x))

/-! ## The operations made of touches -/

@[simp] theorem ZoneKind.flag_decided (kind : ZoneKind) (e : LaneEntry) :
    ({ kind.flag e with defect := false, splice := false } : LaneEntry)
      = { e with defect := false, splice := false } := by
  cases kind <;> rfl

theorem Zone.mark_unmarked (z : Zone) (r : Record) : (z.mark r).unmarked = r.unmarked := by
  unfold Zone.mark Record.unmarked
  simp only [Record.mk.injEq, true_and]
  refine vector_ext_fin fun k => ?_
  simp only [Vector.getElem_map, Vector.getElem_ofFn]
  split <;> simp

theorem State.applyZone_touches (b : Bool) (z : Zone) (r : Record) (s : State) : Touches b s (s.applyZone z r) := by
  unfold State.applyZone
  split
  · exact .single (.marks b s _ _ (Zone.mark_unmarked z))
  · exact Touches.foldl _ _ (fun s k _ => .single (.informed b s r k z.kind.late)) s

theorem State.listZone_touches (b : Bool) (z : Zone) (s : State) : Touches b s (s.listZone z) := by
  rcases Nat.lt_or_ge s.track.zones.length 64 with room | full
  · unfold State.listZone
    rw [if_pos (show _ < Config.zoneCapacity from room)]
    exact .single (.zones b s (insertZone z s.track.zones) s.track.stale s.track.zoneMerge (by
      intro _; rw [insertZone_length]; omega))
  · obtain ⟨i, y, candidate, choice, chosen, -⟩ := mergeChoice_chosen z s.track.zones (by
      intro e; simp [e] at full)
    unfold State.listZone
    rw [if_neg (show ¬_ < Config.zoneCapacity from full.not_gt), choice]
    refine .tail (.single (.zones b s (insertZone (mergedZone z y) (s.track.zones.eraseIdx i)) s.track.stale
      (satInc s.track.zoneMerge) ?_)) (.notice b _ .zoneMerge none (mergedZone z y).lo)
    rw [insertZone_eraseIdx_length _ chosen.place]
    exact id

theorem State.countStale_touches (b : Bool) (s : State) :
    Touches b s (s.onTrack fun u => { u with stale := satInc u.stale }) :=
  .single (.zones b s s.track.zones (satInc s.track.stale) s.track.zoneMerge id)

theorem State.takeZone_touches (b : Bool) (z : Zone) (s : State) : Touches b s (s.takeZone z) := by
  have applied := Touches.foldl (fun s r => s.applyZone z r) (s.track.queue.filter z.reaches)
    (fun s r _ => s.applyZone_touches b z r) s
  unfold State.takeZone
  dsimp only
  split
  · exact applied.trans (State.listZone_touches b z _)
  · split
    · exact applied.trans (State.countStale_touches b _)
    · exact applied

theorem State.closingZone_touches (b : Bool) (serial start stop : Word) (z : Zone) (s : State) :
    Touches b s (s.closingZone serial start stop z) := by
  have counted : ∀ u, Touches b s u → Touches b s (if behind z.hi stop && behind z.hi start then
      u.onTrack fun t => { t with stale := satInc t.stale } else u) := by
    intro u applied
    split
    · exact applied.trans (u.countStale_touches b)
    · exact applied
  unfold State.closingZone
  cases (s.fromSerial serial).head? with
  | none => exact counted s .refl
  | some r =>
    by_cases reached : z.reaches r = true
    · simp only [reached, if_true]
      exact counted _ (s.applyZone_touches b z r)
    · simp only [reached]
      exact counted s .refl

theorem State.closeRecord_touches (r : Record) (stop : Word) (s : State) : Touches true s (s.closeRecord r stop) := by
  have closed : Touches true s (s.onRecord r.serial fun x => { x with nominalEnd := some stop }) :=
    .single (.closes s r.serial stop)
  have swept := closed.trans (Touches.foldl (fun s z => s.closingZone r.serial r.nominalStart stop z)
    (s.onRecord r.serial fun x => { x with nominalEnd := some stop }).track.zones
    (fun s z _ => s.closingZone_touches true _ _ _ z) _)
  exact swept.tail (.zones true _ _ _ _ fun h => (List.length_filter_le _ _).trans h)

theorem State.markLateNext_touches (b : Bool) (r : Record) (s : State) : Touches b s (s.markLateNext r) := by
  have marked : Touches b s (s.onRecord r.serial fun x => { x with lateNext := true }) :=
    .single (.marks b s _ _ fun _ => rfl)
  unfold State.markLateNext
  dsimp only
  split
  · exact marked
  · exact marked.trans (Touches.foldl _ _ (fun s k _ => .single (.informed b s r k .lateNext)) _)

/-- R53: the effects of a late cut are touches, then the count and its notice. -/
theorem State.lateCutEffects_touches (serial : Word) (s : State) : ∃ u, Touches false s u
    ∧ s.lateCutEffects serial
        = (u.onCut fun c => { c with lateCut := satInc c.lateCut }).notify .lateCut none serial := by
  unfold State.lateCutEffects
  dsimp only
  split
  · next before _ => exact ⟨_, s.markLateNext_touches false before, rfl⟩
  · exact ⟨s, .refl, rfl⟩

end Sys2Proof.Machine
end

section
/-! The offer (R143 to R147): late KNIFE heads, the KNIFE head sent, and the head of the chosen queue. -/

namespace Sys2Proof.Machine

/-! ## Late cuts -/

/-- R53: what the effects of a late cut leave alone. -/
theorem State.lateCutEffects_kept (serial : Word) (s : State) :
    (s.lateCutEffects serial).link = s.link ∧ (s.lateCutEffects serial).job = s.job
      ∧ (s.lateCutEffects serial).reg = s.reg ∧ (s.lateCutEffects serial).sched.knife = s.sched.knife
      ∧ (s.lateCutEffects serial).sched.gate = s.sched.gate
      ∧ (s.lateCutEffects serial).sched.stack = s.sched.stack := by
  obtain ⟨u, touches, effects⟩ := s.lateCutEffects_touches serial
  obtain ⟨knife, gate, stack, -⟩ := u.sched.notify_frame .lateCut none serial
  rw [effects]
  exact ⟨touches.link, touches.job, touches.reg, knife.trans touches.knife, gate.trans touches.gate,
    stack.trans touches.stack⟩

/-! ## The KNIFE queue -/

theorem exec_offer (slot : BitVec 5) (s : State) (ha : s.addressed = true) :
    exec (.ownEmptySlotOffer slot) s = s.offer slot.toNat :=
  if_pos ha

theorem State.dropKnife_knife (x : KnifeItem) (s : State) :
    (s.dropKnife x).sched.knife = s.sched.knife.tail :=
  (State.lateCutEffects_kept x.serial _).2.2.2.1

/-- R144: an offer that finds a late KNIFE head drops it and goes on. -/
theorem State.offer_of_late {s : State} {x : KnifeItem} {rest : List KnifeItem} (hk : s.sched.knife = x :: rest)
    (late : s.cutPosLate x.cutPos = true) (place : Nat) : s.offer place = (s.dropKnife x).offer place := by
  have dropped : (s.dropKnife x).sched.knife = rest := by rw [State.dropKnife_knife, hk]; rfl
  unfold State.offer
  rw [hk, dropped, State.dropLateHeads, if_pos late]

/-- R144: an offer that finds a KNIFE head in time sends it. -/
theorem State.offer_of_inTime {s : State} {x : KnifeItem} {rest : List KnifeItem} (hk : s.sched.knife = x :: rest)
    (inTime : s.cutPosLate x.cutPos = false) (place : Nat) : s.offer place = .next (s.sendKnife place x) := by
  have kept : s.dropLateHeads (x :: rest) = s := by simp [State.dropLateHeads, inTime]
  unfold State.offer
  simp only [hk, kept]

theorem State.offer_of_no_knife {s : State} (hk : s.sched.knife = []) (place : Nat) :
    s.offer place = s.sendChosen place := by
  unfold State.offer
  simp only [hk, State.dropLateHeads]

theorem padTo_eq_append {n : Nat} {bs : List Byte} (h : bs.length ≤ n) :
    padTo n bs = bs ++ List.replicate (n - bs.length) 0#8 := by
  rw [padTo, List.take_of_length_le h]
  rfl

theorem knifeSlot_eq (node : Nat) (x : KnifeItem) :
    knifeSlot node x = [0x20#8, BitVec.ofNat 8 node] ++ beBytes 4 x.serial.toNat ++ beBytes 4 x.cutPos.toNat
      ++ List.replicate 6 0#8 := by
  rw [knifeSlot, padTo_eq_append (by simp), beBytes_one]
  simp

/-- Settles O47: the ladder's first rung. -/
theorem offerSendsTheKnifeHead : Obligations.OfferSendsTheKnifeHead := by
  unfold Obligations.OfferSendsTheKnifeHead
  intro slot s x rest ha hk
  dsimp only
  rw [exec_offer slot s ha]
  refine ⟨fun inTime => ?_, fun late => ?_⟩
  · rw [State.offer_of_inTime hk inTime, State.sendKnife, knifeSlot_eq]
    simp only [State.onSched, State.onRecord, State.onTrack, hk, List.tail_cons]
  · have node : (s.dropKnife x).link = s.link := (State.lateCutEffects_kept x.serial _).1
    have dropped : (s.dropKnife x).addressed = true := by rw [State.addressed, node]; exact ha
    rw [State.offer_of_late hk late, ← exec_offer slot _ dropped, State.dropKnife]
    simp only [State.onSched, State.onRecord, State.onTrack, hk, List.tail_cons]

/-! ## The chosen queue -/

section chosen
variable {s : State} {place : Nat}

theorem State.sendChosen_none (h : s.sched.choose.1 = none) :
    s.sendChosen place = .next (s.onSched fun q => q.choose.2).passEmpty := by
  unfold State.sendChosen
  simp only [h]

theorem State.sendChosen_gate (h : s.sched.choose.1 = some .gate) {x : GateItem} {rest : List GateItem}
    (hq : s.sched.gate = x :: rest) :
    s.sendChosen place = .next ((s.onSched fun q => q.choose.2).sendGate place x) := by
  unfold State.sendChosen
  simp only [h, hq]

theorem State.sendChosen_stack (h : s.sched.choose.1 = some .stack) {x : StackItem} {rest : List StackItem}
    (hq : s.sched.stack = x :: rest) {r : StackRec}
    (hr : (s.lane x.lane).list.find? (·.number == x.number) = some r) :
    s.sendChosen place = .next ((s.onSched fun q => q.choose.2).sendStack place x r) := by
  unfold State.sendChosen
  simp only [h, hq, hr]

theorem State.sendChosen_notice (h : s.sched.choose.1 = some .notice) {x : Notice} {rest : List Notice}
    (hq : s.sched.notices = x :: rest) :
    s.sendChosen place = .next ((s.onSched fun q => q.choose.2).sendNotice place x) := by
  unfold State.sendChosen
  simp only [h, hq]

end chosen

/-- R143, R148: the ladder changes no more of the scheduler than the credits. -/
theorem Scheduler.choose_frame (q : Scheduler) :
    q.choose.2.knife = q.knife ∧ q.choose.2.gate = q.gate ∧ q.choose.2.stack = q.stack
      ∧ q.choose.2.notices = q.notices ∧ q.choose.2.table = q.table
      ∧ q.choose.2.noticesDropped = q.noticesDropped := by
  have spent : ∀ (p : Scheduler) (x : Source), (p.spend x).knife = p.knife ∧ (p.spend x).gate = p.gate
      ∧ (p.spend x).stack = p.stack ∧ (p.spend x).notices = p.notices ∧ (p.spend x).table = p.table
      ∧ (p.spend x).noticesDropped = p.noticesDropped := fun p x => by cases x <;> simp [Scheduler.spend]
  unfold Scheduler.choose
  split
  · simp
  · split
    · exact spent q _
    · split
      · split
        · exact spent q.reload _
        · simp [Scheduler.reload]
      · simp

theorem changeFirst_split {older younger : List StackRec} {r : StackRec} {n : Nat} (hr : r.number = n)
    (others : ∀ y ∈ older, y.number ≠ n) :
    changeFirst n (older ++ r :: younger) = older ++ { r with state := .changing } :: younger := by
  induction older with
  | nil => simp [changeFirst, hr]
  | cons y ys ih =>
    rw [List.cons_append, changeFirst, if_neg (others y (by simp)), ih fun x hx => others x (by simp [hx])]
    rfl

theorem find?_number_split {older younger : List StackRec} {r : StackRec} {n : Nat} (hr : r.number = n)
    (others : ∀ y ∈ older, y.number ≠ n) : (older ++ r :: younger).find? (·.number == n) = some r := by
  have skipped : older.find? (·.number == n) = none := by simpa using others
  rw [List.find?_append, skipped]
  simp [hr]

theorem beBytes_two_mod (v : Nat) : beBytes 2 (v % 65536) = beBytes 2 v := by
  rw [beBytes_two, beBytes_two, List.cons.injEq, List.cons.injEq]
  exact ⟨BitVec.eq_of_toNat_eq (by simp only [BitVec.toNat_ofNat]; omega),
    BitVec.eq_of_toNat_eq (by simp only [BitVec.toNat_ofNat]; omega), rfl⟩

theorem gateSlot_eq (node : Nat) (x : GateItem) :
    gateSlot node x = [BitVec.ofNat 8 (0x30 + x.lane.val), BitVec.ofNat 8 node] ++ beBytes 4 x.openPos.toNat
      ++ beBytes 4 x.closePos.toNat ++ beBytes 4 x.first.toNat ++ beBytes 2 (x.last.toNat % 65536) := by
  rw [gateSlot, padTo_eq_append (by simp), beBytes_one, beBytes_two_mod]
  simp

theorem flagByte_eq (b : Bool) : flagByte b = if b = true then 1#8 else 0#8 := by
  cases b <;> rfl

theorem stackSlot_eq (node : Nat) (k : Fin 8) (r : StackRec) :
    stackSlot node k r = [0x40#8, BitVec.ofNat 8 node, BitVec.ofNat 8 k.val] ++ beBytes 2 r.number
      ++ beBytes 2 r.arrived ++ [if 0 < r.suspect then 1#8 else 0#8, if r.short then 1#8 else 0#8]
      ++ List.replicate 7 0#8 := by
  rw [stackSlot, padTo_eq_append (by simp), beBytes_one, beBytes_one, flagByte_eq, flagByte_eq]
  simp

theorem noticeSlot_eq (x : Notice) :
    noticeSlot x = [0x50#8, 0#8, BitVec.ofNat 8 x.kind.code, noticeLaneByte x.lane, BitVec.ofNat 8 x.count]
      ++ beBytes 4 x.value.toNat ++ List.replicate 7 0#8 := by
  rw [noticeSlot, padTo_eq_append (by simp), beBytes_one, beBytes_one]
  simp

/-- Settles O48: one case for each queue that the ladder may choose. -/
theorem offerSendsTheChosenHead : Obligations.OfferSendsTheChosenHead := by
  unfold Obligations.OfferSendsTheChosenHead
  intro slot s ha hk
  obtain ⟨-, gate, stack, notices, -, -⟩ := s.sched.choose_frame
  dsimp only
  rw [exec_offer slot s ha, State.offer_of_no_knife hk]
  refine ⟨fun h => ?_, fun x rest h hq => ?_, fun x rest r older younger h hq hl hr others => ?_,
    fun x rest h hq => ?_⟩
  · rw [State.sendChosen_none h]
    rfl
  · rw [State.sendChosen_gate h hq, State.sendGate, gateSlot_eq]
    refine ⟨fun inTime => ?_, fun late => ?_⟩
    · rw [show (s.onSched fun q => q.choose.2).gateLate x = false from inTime, if_neg Bool.false_ne_true]
      simp only [State.onSched, gate, hq, List.tail_cons]
    · rw [show (s.onSched fun q => q.choose.2).gateLate x = true from late, if_pos rfl]
      simp only [State.reportLateGate, State.charge, State.onLateGates, State.onDisp, State.onSched, modAt, gate, hq,
        List.tail_cons]
  · have found : (s.lane x.lane).list.find? (·.number == x.number) = some r := by
      rw [hl, find?_number_split hr others]
    have changed : changeFirst x.number (s.lane x.lane).list = older ++ { r with state := .changing } :: younger := by
      rw [hl, changeFirst_split hr others]
    rw [State.sendChosen_stack h hq found, State.sendStack, stackSlot_eq]
    simp only [State.onLane, State.onStk, State.onSched, State.cfg, modAt, stack, hq, List.tail_cons]
    rw [← changed]
    rfl
  · rw [State.sendChosen_notice h hq, State.sendNotice, noticeSlot_eq]
    simp only [State.onSched, notices, hq, List.tail_cons]
    rcases x with ⟨kind, lane, count, value⟩
    cases kind <;> cases lane <;> rfl

end Sys2Proof.Machine
end

section
/-! Cuts (sections 3.5.1, 3.5.2, 5.4 to 5.6) and the requests that begin and end a job's run (9.5). -/

namespace Sys2Proof.Machine

/-! ## Building a knife command -/

/-- R87 step 2: the applied correction steps by at most the limit towards the target, without passing it. -/
theorem State.steppedCorrection_spec (s : State) :
    (s.steppedCorrection - s.cut.applied).natAbs ≤ s.stepLimit
      ∧ ((s.cut.target - s.cut.applied).natAbs ≤ s.stepLimit → s.steppedCorrection = s.cut.target)
      ∧ (s.cut.applied + s.stepLimit < s.cut.target → s.steppedCorrection = s.cut.applied + s.stepLimit)
      ∧ (s.cut.target < s.cut.applied - s.stepLimit → s.steppedCorrection = s.cut.applied - s.stepLimit) := by
  unfold State.steppedCorrection
  rw [clamp_eq_max_min _ _ _ (by omega)]
  omega

/-- Settles O31: the three branches of the transition. -/
theorem cutsAreBuiltOrLate : Obligations.CutsAreBuiltOrLate := by
  unfold Obligations.CutsAreBuiltOrLate
  intro r s pending
  dsimp only
  have transition : s.cutTransition r = if s.pendingLate r then s.latePending r
      else if s.cutDue r = true ∧ s.sched.knife.length < 8 then s.buildKnife r else s :=
    if_neg (not_not_intro pending)
  rw [transition]
  refine ⟨fun late => ?_, fun inTime due room => ?_, fun inTime idle => ?_⟩
  · rw [if_pos (show s.pendingLate r = true from late)]
    rfl
  · rw [if_neg (ne_true_of_eq_false (show s.pendingLate r = false from inTime)),
      if_pos (show s.cutDue r = true ∧ s.sched.knife.length < 8 from ⟨due, room⟩)]
    obtain ⟨bounded, reaches, above, below⟩ := s.steppedCorrection_spec
    exact ⟨s.steppedCorrection, bounded, reaches, above, below, rfl⟩
  · rw [if_neg (ne_true_of_eq_false (show s.pendingLate r = false from inTime)), if_neg]
    rintro ⟨due, room⟩
    rcases idle with idle | full
    · exact Bool.false_ne_true (idle.symm.trans due)
    · exact absurd room full.not_gt

/-! ## Late information to several lanes -/

theorem State.lateInformation_counters (s : State) (r : Record) (k : Fin 8) (kind : LateKind) :
    (s.lateInformation r k kind).disp.counters = (s.charge k .lateInfo).disp.counters := by
  rw [State.lateInformation_eq]
  rfl

/-- R115: each lane told counts LATE_INFO once. -/
theorem State.foldl_lateInformation_counters (r : Record) (kind : LateKind) (ks : List (Fin 8)) (distinct : ks.Nodup)
    (s : State) (k : Fin 8) :
    (ks.foldl (fun v k => v.lateInformation r k kind) s).disp.counters[k.val]
      = if k ∈ ks then s.disp.counters[k.val].bump .lateInfo else s.disp.counters[k.val] := by
  induction ks generalizing s with
  | nil => rfl
  | cons j ks ih =>
    obtain ⟨hj, distinct⟩ := List.nodup_cons.1 distinct
    rw [List.foldl_cons, ih distinct, State.lateInformation_counters, State.charge_counters]
    by_cases h : k = j
    · subst h
      simp [hj]
    · simp [h, Ne.symm h]

/-- Late information neither reads nor changes the tracking unit and the cut controller. -/
theorem State.foldl_lateInformation_track_cut (r : Record) (kind : LateKind) (ks : List (Fin 8)) (s : State)
    (u : Tracking) (c : CutControl) :
    ks.foldl (fun v k => v.lateInformation r k kind) ({ s with track := u, cut := c } : State)
      = { ks.foldl (fun v k => v.lateInformation r k kind) s with track := u, cut := c } :=
  List.foldl_hom (fun v : State => ({ v with track := u, cut := c } : State)) (fun v k => by
    rw [State.lateInformation_eq, State.lateInformation_eq]
    rfl)

/-! ## The effects of a late cut -/

/-- R53: the first record has none before it. -/
theorem State.lateCutEffects_first {s : State} {r : Record} {younger : List Record}
    (hq : s.track.queue = r :: younger) : s.lateCutEffects r.serial
      = ({ s with cut := { s.cut with lateCut := satInc s.cut.lateCut } } : State).notify .lateCut none r.serial := by
  have oldest : (s.olderThan r.serial).getLast? = none := by rw [s.olderThan_split [] younger r hq (by simp)]; rfl
  unfold State.lateCutEffects
  simp only [oldest]
  rfl

theorem State.markLateNext_of_uncommitted {r : Record} (h : r.commit = .uncommitted) (s : State) :
    s.markLateNext r = s.onRecord r.serial fun x => { x with lateNext := true } := by
  unfold State.markLateNext
  simp only [h]

theorem State.markLateNext_of_committed {r : Record} (h : r.commit = .committed) (s : State) :
    s.markLateNext r = s.lanesInUse.foldl (fun v k => v.lateInformation r k .lateNext)
      (s.onRecord r.serial fun x => { x with lateNext := true }) := by
  unfold State.markLateNext
  simp only [h]
  rfl

/-- R53: the record before takes LATE_NEXT, its lanes being told where it is committed. -/
theorem State.lateCutEffects_behind {s : State} {older younger : List Record} {before r : Record}
    (apart : s.SerialsApart) (hq : s.track.queue = older ++ before :: r :: younger) :
    s.lateCutEffects r.serial
      = ({ (if before.commit = .committed then
              s.lanesInUse.foldl (fun v k => v.lateInformation before k .lateNext) s else s) with
            track := { s.track with queue := older ++ { before with lateNext := true } :: r :: younger }
            cut := { s.cut with lateCut := satInc s.cut.lateCut } } : State).notify .lateCut none r.serial := by
  have hq' : s.track.queue = (older ++ [before]) ++ r :: younger := by rw [hq]; simp
  have previous : (s.olderThan r.serial).getLast? = some before := by
    rw [s.olderThan_split _ younger r hq' (apart.others s _ younger r hq').1]
    simp
  have marked := s.onRecord_of_serialsApart (fun x => { x with lateNext := true }) older (r :: younger) before hq apart
  unfold State.lateCutEffects
  simp only [previous]
  by_cases hc : before.commit = .committed
  · have cut : (s.lanesInUse.foldl (fun v k => v.lateInformation before k .lateNext) s).cut = s.cut :=
      Touches.cut (b := false) (Touches.foldl _ _ (fun v k _ => .single (.informed false v before k .lateNext)) s)
    rw [if_pos hc, State.markLateNext_of_committed hc, marked,
      State.foldl_lateInformation_track_cut before .lateNext s.lanesInUse s _ s.cut, ← cut]
    rfl
  · have open_ : before.commit = .uncommitted := by cases h : before.commit <;> simp_all
    rw [if_neg hc, State.markLateNext_of_uncommitted open_, marked]
    rfl

/-- Settles O32: the first record has none before it, and the record before any other is told. -/
theorem lateCutIsReported : Obligations.LateCutIsReported := by
  unfold Obligations.LateCutIsReported
  intro r younger s
  refine ⟨State.lateCutEffects_first, fun older before apart hq => ?_⟩
  dsimp only
  obtain ⟨link, job, reg, knife, gate, stack⟩ := s.lateCutEffects_kept r.serial
  have behind := State.lateCutEffects_behind apart hq
  refine ⟨fun h => ?_, fun h => ⟨?_, fun k => ?_⟩, job, reg, link, knife, gate, stack⟩
  · rw [behind, if_neg (by simp [h])]
  · rw [behind, if_pos h]
    rfl
  · rw [behind, if_pos h]
    refine (s.foldl_lateInformation_counters before .lateNext s.lanesInUse s.lanesInUse_nodup k).trans ?_
    simp only [State.mem_lanesInUse]

/-! ## Cut measurements -/

/-- R95, R96: rounding takes a nearest integer, of two the one of larger magnitude. -/
theorem round256_nearest (t : Int) : 2 * (256 * round256 t - t).natAbs ≤ 256
    ∧ (2 * (256 * round256 t - t).natAbs = 256 → t.natAbs < (256 * round256 t).natAbs) := by
  unfold round256
  split <;> omega

theorem flagSet_of_ne {b : Byte} (h : b ≠ 0#8) : flagSet b = true := by
  simpa [flagSet] using h

theorem CutControl.correct_eq (loop : LoopRec) (e : Int) (c : CutControl) :
    c.correct loop e = if loop.kp = 0 ∧ loop.ki = 0 then c else
      { c with
        integral := nextIntegral loop c.integral e
        target := nextTarget loop (nextIntegral loop c.integral e) e } := by
  unfold CutControl.correct
  by_cases h : loop.kp = 0 ∧ loop.ki = 0
  · rw [if_pos (loop.withoutGain_iff.2 h), if_pos h]
  · rw [if_neg (mt loop.withoutGain_iff.1 h), if_neg h]

section lockTest
variable {s : State} {e : Int}

/-- R97, R98: FREE takes no lock or unlock. -/
theorem State.lockTest_free (h : s.reg.state = .free) : s.lockTest e = s := by
  unfold State.lockTest
  simp only [h]

theorem State.lockTest_acquire (h : s.reg.state = .acquire) :
    s.lockTest e = if e.natAbs ≤ s.job.loop.lockTolerance then
      ({ s with reg := { s.reg with state := .locked } } : State).notify .regState none 2#32 else s := by
  unfold State.lockTest State.lockRequest State.setRegState
  simp only [h]
  rfl

theorem State.lockTest_locked (h : s.reg.state = .locked) :
    s.lockTest e = if s.job.loop.unlockTolerance < e.natAbs then
      ({ s with
          cut := { s.cut with ramp := max 1 (s.job.loop.maxStep / 32) }
          reg := { s.reg with state := .acquire } } : State).notify .regState none 1#32 else s := by
  have restarted : s.restartRamp.reg.state = .locked := h
  unfold State.lockTest State.unlockRequest State.setRegState
  simp only [h, restarted]
  rfl

end lockTest

/-- Settles O33: the record found is checked, the loop corrected, and the lock tested in each registration state. -/
theorem measurementMovesTheLoop : Obligations.MeasurementMovesTheLoop := by
  unfold Obligations.MeasurementMovesTheLoop
  refine ⟨round256_nearest, fun valid error s ha => ⟨fun stray => ?_, ?_⟩⟩
  · have unfound : s.track.queue.find? Record.eligible = none :=
      List.find?_eq_none.2 fun x hx => mt x.eligible_iff.1 (stray x hx)
    change execCutmeas valid error s = _
    rw [execCutmeas, s.ifAddressed_addressed _ ha, unfound]
    rfl
  · intro older younger r hq apart ho hcut hcheck origin hv
    dsimp only
    have found : s.track.queue.find? Record.eligible = some r :=
      hq ▸ find?_eligible_of_oldest older younger r ho ⟨hcut, hcheck⟩
    rw [exec_cutmeas_of_associated valid error s r ha found, if_pos ⟨flagSet_of_ne hv, origin⟩, State.useMeasurement]
    rw [s.onRecord_of_serialsApart _ older younger r hq apart]
    unfold State.onCut
    dsimp only
    rw [CutControl.correct_eq]
    refine ⟨fun h => ?_, fun h near => ?_, fun h far => ?_, fun h far => ?_, fun h near => ?_⟩
    · exact congrArg _ (State.lockTest_free h)
    · refine congrArg _ (Eq.trans (State.lockTest_acquire ?_) (if_pos near))
      exact h
    · refine congrArg _ (Eq.trans (State.lockTest_acquire ?_) (if_neg far.not_ge))
      exact h
    · refine congrArg _ (Eq.trans (State.lockTest_locked ?_) (if_pos far))
      exact h
    · refine congrArg _ (Eq.trans (State.lockTest_locked ?_) (if_neg near.not_gt))
      exact h

/-! ## START, RESUME and CLEAR -/

/-- R20: the registration state set to FREE, as one state. -/
theorem State.setRegState_free (s : State) : s.setRegState .free = { s with
    reg := { s.reg with state := .free }
    sched := if s.reg.state = .free then s.sched else s.sched.notify .regState none 0#32 } := by
  by_cases h : s.reg.state = .free
  · rw [State.setRegState, if_pos h, if_pos h, ← h]
  · rw [State.setRegState, if_neg h, if_neg h]
    rfl

/-- R62: an empty queue is accounted at once. -/
theorem State.discardQueue_of_empty {s : State} (h : s.track.queue = []) : s.discardQueue = { s with
    track := { s.track with zones := [] }
    disp := { s.disp with lateGates := Vector.replicate 8 [] } } := by
  rcases s with ⟨link, ⟨pos, posHeld, queue, nextSerial, zones, stale, merged⟩, reg, cut, disp, stk, sched, job, pending⟩
  obtain rfl : queue = [] := h
  rfl

theorem exec_start_armed (s : State) (ha : s.addressed = true) (h : s.job.state = .armed) :
    exec .start s = .next
      ((s.enterJobState .run .none).restartRegistration.setFirstRecord.clearLoop.restartRamp.reply .ok) := by
  change execStart s = _
  rw [execStart, s.ifAddressed_addressed _ ha, if_pos h]

theorem exec_resume_hold (s : State) (ha : s.addressed = true) (h : s.job.state = .hold) :
    exec .resume s = .next (((s.enterJobState .run .none).restartRegistration.restartRamp).reply .ok) := by
  change execResume s = _
  rw [execResume, s.ifAddressed_addressed _ ha, if_pos h]

theorem exec_clear_idle (s : State) (ha : s.addressed = true) (h : s.job.state = .armed ∨ s.job.state = .hold) :
    exec .clear s
      = .next (((s.enterJobState .config .none).discardQueue.clearRegistration.clearStacks).reply .ok) := by
  change execClear s = _
  rw [execClear, s.ifAddressed_addressed _ ha, if_pos h]

/-- Settles O52: each request by the operations that it is made of. -/
theorem startResumeAndClear : Obligations.StartResumeAndClear := by
  unfold Obligations.StartResumeAndClear
  intro s ha
  refine ⟨fun h => ?_, fun h => ?_, fun h empty => ?_, fun h => ?_, fun h => ?_, fun h h' => ?_⟩
  · refine ⟨_, _, exec_start_armed s ha h, ?_, rfl⟩
    rw [State.restartRegistration, State.setRegState_free]
    rfl
  · refine ⟨_, _, exec_resume_hold s ha h, ?_, rfl⟩
    rw [State.restartRegistration, State.setRegState_free]
    rfl
  · refine ⟨_, _, exec_clear_idle s ha h, ?_, rfl⟩
    rw [State.discardQueue_of_empty (show (s.enterJobState .config .none).track.queue = [] from empty),
      State.clearRegistration, State.setRegState_free]
    rfl
  · change execStart s = _
    rw [execStart, s.ifAddressed_addressed _ ha, if_neg h]
  · change execResume s = _
    rw [execResume, s.ifAddressed_addressed _ ha, if_neg h]
  · change execClear s = _
    rw [execClear, s.ifAddressed_addressed _ ha, if_neg (not_or_intro h h')]

end Sys2Proof.Machine
end

section
/-! The closing of a record (R47, R69, R75) and the END of a job (R59, R138). -/

namespace Sys2Proof.Machine

/-! ## A zone at one record -/

theorem State.applyZone_of_uncommitted {r : Record} (h : r.commit = .uncommitted) (z : Zone) (s : State) :
    s.applyZone z r = s.onRecord r.serial z.mark := by
  unfold State.applyZone
  simp only [h]

theorem State.applyZone_of_committed {r : Record} (h : r.commit = .committed) (z : Zone) (s : State) :
    s.applyZone z r = (s.lanesInUse.filter fun k => inLaneSet z.lanes k).foldl
      (fun s k => s.lateInformation r k z.kind.late) s := by
  unfold State.applyZone
  simp only [h]

theorem Zone.reaches_eq (z : Zone) (r : Record) :
    z.reaches r = r.nominalEnd.any fun e => behind z.lo e && atOrBeyond z.hi r.nominalStart := by
  unfold Zone.reaches
  cases r.nominalEnd <;> rfl

/-- R69: the flags of a record after a zone. -/
theorem Zone.mark_eq (z : Zone) (r : Record) : z.mark r = { r with lanes := Vector.ofFn fun k : Fin 8 =>
    { r.lanes[k.val] with
      defect := r.lanes[k.val].defect || (z.kind == .defect && inLaneSet z.lanes k)
      splice := r.lanes[k.val].splice || (z.kind == .splice && inLaneSet z.lanes k) } } := by
  unfold Zone.mark
  congr 2
  funext k
  rcases z with ⟨kind, lo, hi, lanes⟩
  cases kind <;> by_cases h : inLaneSet lanes k = true <;> simp [h, ZoneKind.flag]

/-! ## The zones one after another at an open record -/

section sweep
variable (hits : Zone → Bool)

/-- The record x with the flags of those of the zones that reach it. -/
def Record.flagged (zs : List Zone) (x : Record) : Record := { x with lanes := Vector.ofFn fun k : Fin 8 =>
  { x.lanes[k.val] with
    defect := x.lanes[k.val].defect || zs.any fun z => z.kind == .defect && hits z && inLaneSet z.lanes k
    splice := x.lanes[k.val].splice || zs.any fun z => z.kind == .splice && hits z && inLaneSet z.lanes k } }

theorem Record.flagged_nil (x : Record) : x.flagged hits [] = x := by
  have same : (Vector.ofFn fun k : Fin 8 => x.lanes[k.val]) = x.lanes :=
    vector_ext_fin fun k => by rw [Vector.getElem_ofFn]
  simp [Record.flagged, same]

theorem Record.flagged_cons (z : Zone) (zs : List Zone) (x : Record) :
    x.flagged hits (z :: zs) = (if hits z then z.mark x else x).flagged hits zs := by
  by_cases h : hits z = true
  · simp only [Record.flagged, h, if_true, Zone.mark_eq, List.any_cons, Vector.getElem_ofFn, Bool.and_true,
      Bool.or_assoc]
  · simp only [Record.flagged, h, List.any_cons, Bool.and_false, Bool.false_and, Bool.false_or, Bool.false_eq_true,
      if_false]

end sweep

/-- A count taken for each element that passes a test is taken as often as there are such elements. -/
theorem foldl_satInc {α : Type} (p : α → Bool) (l : List α) (c : Word) :
    l.foldl (fun c x => if p x then satInc c else c) c = satInc^[(l.filter p).length] c := by
  induction l generalizing c with
  | nil => rfl
  | cons x xs ih => by_cases h : p x = true <;> simp [h, ih]

/-- The state with record x between the older and the younger ones, and this STALE counter. -/
def State.sweeping (s : State) (older younger : List Record) (x : Record) (stale : Word) : State :=
  { s with track := { s.track with queue := older ++ x :: younger, stale := stale } }

section sweeping
variable {s : State} {older younger : List Record} {r : Record}

theorem State.sweeping_apart (apart : s.SerialsApart) (hq : s.track.queue = older ++ r :: younger) {x : Record}
    (hx : x.serial = r.serial) (stale : Word) : (s.sweeping older younger x stale).SerialsApart := by
  unfold State.SerialsApart at apart ⊢
  rw [hq] at apart
  simpa [State.sweeping, hx] using apart

/-- R75 steps 1 and 2: one listed zone at the closing of an uncommitted record. -/
theorem State.closingZone_sweeping (apart : s.SerialsApart) (hq : s.track.queue = older ++ r :: younger) {x : Record}
    {stop : Word} (hx : x.serial = r.serial ∧ x.nominalStart = r.nominalStart ∧ x.nominalEnd = some stop
      ∧ x.commit = .uncommitted) (stale : Word) (z : Zone) :
    (s.sweeping older younger x stale).closingZone r.serial r.nominalStart stop z
      = s.sweeping older younger (if behind z.lo stop && atOrBeyond z.hi r.nominalStart then z.mark x else x)
          (if behind z.hi stop && behind z.hi r.nominalStart then satInc stale else stale) := by
  obtain ⟨serial, start, ended, uncommitted⟩ := hx
  have apart' := State.sweeping_apart apart hq serial stale
  have queue : (s.sweeping older younger x stale).track.queue = older ++ x :: younger := rfl
  have found : ((s.sweeping older younger x stale).fromSerial r.serial).head? = some x := by
    rw [← serial, State.fromSerial_split _ older younger x queue (apart'.others _ older younger x queue).1]
    rfl
  have reached : z.reaches x = (behind z.lo stop && atOrBeyond z.hi r.nominalStart) := by
    rw [Zone.reaches_eq, ended, start]
    rfl
  unfold State.closingZone
  simp only [found, reached]
  by_cases hit : (behind z.lo stop && atOrBeyond z.hi r.nominalStart) = true
  · rw [if_pos hit, if_pos hit, State.applyZone_of_uncommitted uncommitted,
      State.onRecord_of_serialsApart _ z.mark older younger x queue apart']
    split <;> rfl
  · rw [if_neg hit, if_neg hit]
    split <;> rfl

theorem State.foldl_closingZone (apart : s.SerialsApart) (hq : s.track.queue = older ++ r :: younger) {stop : Word}
    (zs : List Zone) : ∀ (x : Record) (stale : Word),
      x.serial = r.serial ∧ x.nominalStart = r.nominalStart ∧ x.nominalEnd = some stop ∧ x.commit = .uncommitted →
      zs.foldl (fun s z => s.closingZone r.serial r.nominalStart stop z) (s.sweeping older younger x stale)
        = s.sweeping older younger (x.flagged (fun z => behind z.lo stop && atOrBeyond z.hi r.nominalStart) zs)
            (satInc^[(zs.filter fun z => behind z.hi stop && behind z.hi r.nominalStart).length] stale) := by
  induction zs with
  | nil => intro x stale _; rw [Record.flagged_nil]; rfl
  | cons z zs ih =>
    intro x stale hx
    rw [List.foldl_cons, State.closingZone_sweeping apart hq hx, ih _ _ (by split <;> exact hx),
      Record.flagged_cons, ← foldl_satInc, ← foldl_satInc]
    rfl

/-- R47, R75: the closing of an uncommitted record, as one state. -/
theorem State.closeRecord_split (apart : s.SerialsApart) (hq : s.track.queue = older ++ r :: younger)
    (uncommitted : r.commit = .uncommitted) (stop : Word) : s.closeRecord r stop = { s with track := { s.track with
      queue := older ++ Record.flagged (fun z => behind z.lo stop && atOrBeyond z.hi r.nominalStart) s.track.zones
        { r with nominalEnd := some stop } :: younger
      zones := s.track.zones.filter fun z => !behind z.hi stop
      stale := satInc^[(s.track.zones.filter fun z =>
        behind z.hi stop && behind z.hi r.nominalStart).length] s.track.stale } } := by
  unfold State.closeRecord
  rw [s.onRecord_of_serialsApart _ older younger r hq apart]
  have swept := State.foldl_closingZone apart hq s.track.zones { r with nominalEnd := some stop } s.track.stale
    ⟨rfl, rfl, rfl, uncommitted⟩
  refine Eq.trans (congrArg (State.onTrack fun u => { u with zones := u.zones.filter fun z => !behind z.hi stop }) swept) ?_
  rfl

/-- A change by serial, in the two spellings of the queue. -/
theorem map_serial_split (apart : s.SerialsApart) (hq : s.track.queue = older ++ r :: younger)
    (f : Record → Record) :
    s.track.queue.map (fun x => if x.serial = r.serial then f x else x) = older ++ f r :: younger := by
  have changed := s.onRecord_of_serialsApart f older younger r hq apart
  exact (congrArg (fun t : State => t.track.queue) changed :)

end sweeping

/-- Settles O30: the fold over the listed zones. -/
theorem closingSweepsTheList : Obligations.ClosingSweepsTheList := by
  unfold Obligations.ClosingSweepsTheList
  intro r stop s apart member uncommitted
  obtain ⟨older, younger, hq⟩ := List.append_of_mem member
  dsimp only
  rw [State.closeRecord_split apart hq uncommitted stop, map_serial_split apart hq]
  rfl

/-! ## END -/

section endJob
variable {s : State}

theorem exec_endJob_run (ha : s.addressed = true) (hr : s.job.state = .run) :
    exec .endJob s = .next ((if (s.closeTail.enterJobState .ending .none).track.queue = [] then
      (s.closeTail.enterJobState .ending .none).endOfJobClosing else s.closeTail.enterJobState .ending .none).reply
        .ok) := by
  change execEndJob s = _
  rw [execEndJob, s.ifAddressed_addressed _ ha, if_pos hr]

theorem State.closeTail_of_empty (hq : s.track.queue = []) : s.closeTail = s := by
  unfold State.closeTail
  simp only [hq, List.getLast?_nil]

theorem State.closeTail_split {older : List Record} {r : Record} (hq : s.track.queue = older ++ [r])
    (apart : s.SerialsApart) : s.closeTail
      = ({ s with track := { s.track with queue := older ++ [{ r with tail := true }] } } : State).closeRecord r
          (shift r.nominalStart s.job.job.pitch) := by
  unfold State.closeTail
  rw [hq, List.getLast?_append_of_ne_nil _ (by simp)]
  simp only [List.getLast?_singleton]
  rw [s.onRecord_of_serialsApart _ older [] r hq apart]

end endJob

/-- Settles O53: the tail by the closing of its record, the end-of-job closing by its one state. -/
theorem endMarksTheTail : Obligations.EndMarksTheTail := by
  unfold Obligations.EndMarksTheTail
  refine ⟨fun s ha => ⟨fun hr hq => ?_, fun older r hr hq apart => ?_, fun hr => ?_⟩, fun s => ?_⟩
  · rw [exec_endJob_run ha hr, State.closeTail_of_empty hq, if_pos (by simpa using hq)]
    rfl
  · dsimp only
    have touches := State.closeRecord_touches r (shift r.nominalStart s.job.job.pitch)
      { s with track := { s.track with queue := older ++ [{ r with tail := true }] } }
    have queued : ¬(s.closeTail.enterJobState .ending .none).track.queue = [] := by
      have length := touches.queue_length
      rw [← State.closeTail_split hq apart] at length
      intro empty
      rw [State.enterJobState_track] at empty
      simp [empty] at length
    have job := touches.job
    refine ⟨?_, fun uncommitted => ?_⟩
    · rw [exec_endJob_run ha hr, if_neg queued, State.closeTail_split hq apart]
      unfold State.enterJobState State.onJob
      rw [job]
      rfl
    · have apart' : ({ s with track := { s.track with queue := older ++ [{ r with tail := true }] } }
          : State).SerialsApart := by
        unfold State.SerialsApart at apart ⊢
        rw [hq] at apart
        simpa using apart
      exact State.closeRecord_split (r := { r with tail := true }) apart' rfl uncommitted _
  · change execEndJob s = _
    rw [execEndJob, s.ifAddressed_addressed _ ha, if_neg hr]
  · rw [State.endOfJobClosing_eq, State.completeEnding_eq]
    rfl

end Sys2Proof.Machine
end

section
/-! INSPECT and SPLICE (R66 to R71): the zone they form at the records that stand, and in the list. -/

namespace Sys2Proof.Machine

theorem lanesBelow_getLsbD (count : Nat) (k : Fin 8) : (lanesBelow count).getLsbD k.val = true ↔ k.val < count := by
  rw [lanesBelow, BitVec.getLsbD_ofNat, Nat.testBit_two_pow_sub_one]
  simp [k.isLt]

/-! ## A zone at all records that it reaches -/

theorem ZoneKind.flag_eq (kind : ZoneKind) (e : LaneEntry) :
    kind.flag e = { e with defect := e.defect || kind == .defect, splice := e.splice || kind == .splice } := by
  cases kind <;> simp [ZoneKind.flag]

/-- R115: the lanes ks of the records q told of this kind of late information. -/
def State.toldOf (kind : LateKind) (ks : List (Fin 8)) (q : List Record) (s : State) : State :=
  q.foldl (fun v r => ks.foldl (fun v k => v.lateInformation r k kind) v) s

section told
variable (kind : LateKind) (ks : List (Fin 8))

theorem State.toldOf_touches (q : List Record) (s : State) : Touches false s (s.toldOf kind ks q) :=
  Touches.foldl _ _ (fun v r _ => Touches.foldl _ _ (fun v k _ => .single (.informed false v r k kind)) v) s

/-- Telling neither reads nor changes the tracking unit. -/
theorem State.toldOf_withTrack (q : List Record) (s : State) (u : Tracking) :
    State.toldOf kind ks q { s with track := u } = { s.toldOf kind ks q with track := u } :=
  List.foldl_hom (fun v : State => ({ v with track := u } : State)) fun v r =>
    List.foldl_hom (fun v : State => ({ v with track := u } : State)) fun v k => by
      rw [State.lateInformation_eq, State.lateInformation_eq]
      rfl

theorem State.toldOf_track (q : List Record) (s : State) : (s.toldOf kind ks q).track = s.track :=
  (congrArg State.track (State.toldOf_withTrack kind ks q s s.track) :)

theorem State.toldOf_counters (distinct : ks.Nodup) (q : List Record) (s : State) (k : Fin 8) :
    (s.toldOf kind ks q).disp.counters[k.val]
      = if k ∈ ks then (LaneCounters.bump .lateInfo)^[q.length] s.disp.counters[k.val]
        else s.disp.counters[k.val] := by
  induction q generalizing s with
  | nil => simp [State.toldOf]
  | cons r q ih =>
    refine (ih _).trans ?_
    rw [State.foldl_lateInformation_counters r kind ks distinct]
    by_cases h : k ∈ ks <;> simp [h]

end told

/-- R69: the records with the flags of the zone z in the uncommitted ones of l. -/
def markedBy (z : Zone) (l q : List Record) : List Record :=
  q.map fun x => if ∃ r ∈ l, r.commit = .uncommitted ∧ r.serial = x.serial then z.mark x else x

theorem markedBy_cons {z : Zone} {r : Record} {l : List Record} (apart : ((r :: l).map (·.serial)).Nodup)
    (q : List Record) : markedBy z (r :: l) q = markedBy z l
      (if r.commit = .uncommitted then q.map fun x => if x.serial = r.serial then z.mark x else x else q) := by
  rw [List.map_cons, List.nodup_cons] at apart
  unfold markedBy
  by_cases hc : r.commit = .uncommitted
  · rw [if_pos hc, List.map_map]
    refine List.map_congr_left fun x _ => ?_
    by_cases hx : x.serial = r.serial
    · have other : ¬∃ y ∈ l, y.commit = .uncommitted ∧ y.serial = x.serial := by
        rintro ⟨y, hy, -, e⟩
        exact apart.1 (List.mem_map.2 ⟨y, hy, e.trans hx⟩)
      have first : ∃ y ∈ r :: l, y.commit = .uncommitted ∧ y.serial = x.serial := ⟨r, by simp, hc, hx.symm⟩
      rw [if_pos first, Function.comp_apply, if_pos hx, 
        if_neg (show ¬∃ y ∈ l, y.commit = .uncommitted ∧ y.serial = (z.mark x).serial from other)]
    · simp only [List.exists_mem_cons_iff, Ne.symm hx, and_false, false_or, Function.comp_apply, if_neg hx]
  · simp only [List.exists_mem_cons_iff, hc, false_and, false_or, if_false]

/-- R69: the zone at each record of l, as one state. -/
theorem State.foldl_applyZone (z : Zone) (l : List Record) : ∀ s : State, (l.map (·.serial)).Nodup →
    l.foldl (fun s r => s.applyZone z r) s
      = { s.toldOf z.kind.late (s.lanesInUse.filter fun k => inLaneSet z.lanes k)
            (l.filter fun r => r.commit == .committed) with
          track := { s.track with queue := markedBy z l s.track.queue } } := by
  induction l with
  | nil => intro s _; simp [State.toldOf, markedBy]
  | cons r l ih =>
    intro s apart
    rw [List.foldl_cons, markedBy_cons apart]
    rw [List.map_cons, List.nodup_cons] at apart
    cases hc : r.commit with
    | uncommitted =>
      rw [State.applyZone_of_uncommitted hc, ih _ apart.2, List.filter_cons_of_neg (by simp [hc]), if_pos rfl]
      exact (congrArg (fun v : State => ({ v with track := { s.track with
        queue := markedBy z l (s.onRecord r.serial z.mark).track.queue } } : State))
        (State.toldOf_withTrack z.kind.late (s.lanesInUse.filter fun k => inLaneSet z.lanes k)
          (l.filter fun r => r.commit == .committed) s (s.onRecord r.serial z.mark).track) :)
    | committed =>
      have told : s.applyZone z r = s.toldOf z.kind.late (s.lanesInUse.filter fun k => inLaneSet z.lanes k) [r] :=
        State.applyZone_of_committed hc z s
      have lanes : (s.toldOf z.kind.late (s.lanesInUse.filter fun k => inLaneSet z.lanes k) [r]).lanesInUse
          = s.lanesInUse := (State.toldOf_touches _ _ _ s).lanesInUse
      rw [told, ih _ apart.2, lanes, State.toldOf_track, List.filter_cons_of_pos (by simp [hc]),
        if_neg (by simp)]
      rfl

/-! ## The list and the frontier -/

theorem State.reachesFrontier_eq (s : State) (z : Zone) : s.reachesFrontier z
    = s.track.queue.getLast?.all fun r => atOrBeyond z.hi (r.nominalEnd.getD r.nominalStart) := by
  unfold State.reachesFrontier State.frontier
  cases s.track.queue.getLast? with
  | none => rfl
  | some r => cases h : r.nominalEnd <;> simp [h]

/-- R72 to R74: listing changes the list, its counter and the NOTICE queue only. -/
theorem State.listZone_kept (z : Zone) (s : State) :
    (s.listZone z).track.queue = s.track.queue ∧ (s.listZone z).track.stale = s.track.stale
      ∧ (s.listZone z).disp = s.disp := by
  unfold State.listZone
  split
  · simp
  · split <;> simp

/-- R72 to R74: the list after a listing rests on the list before. -/
theorem State.listZone_zones_congr {s u : State} (h : u.track.zones = s.track.zones) (z : Zone) :
    (u.listZone z).track.zones = (s.listZone z).track.zones := by
  unfold State.listZone
  rw [h]
  split
  · simp [h]
  · split <;> simp [h]

/-- R70, R71: what becomes of a zone once it is applied. -/
theorem State.takeZone_eq (z : Zone) (s : State) :
    let u := (s.track.queue.filter z.reaches).foldl (fun s r => s.applyZone z r) s
    s.takeZone z = if u.reachesFrontier z then u.listZone z
      else if s.track.queue.any z.reaches then u
      else u.onTrack fun v => { v with stale := satInc v.stale } := by
  unfold State.takeZone
  dsimp only
  split
  · rfl
  · by_cases h : s.track.queue.any z.reaches = true
    · rw [if_pos h, if_neg]
      simpa using h
    · rw [if_neg h, if_pos]
      simpa using h

section take
variable (z : Zone) (s : State)

/-- R69: the queue after the zone is applied to all it reaches. -/
theorem markedBy_reached (apart : s.SerialsApart) :
    markedBy z (s.track.queue.filter z.reaches) s.track.queue = s.track.queue.map fun r =>
      if z.reaches r = true ∧ r.commit = .uncommitted then z.mark r else r := by
  refine List.map_congr_left fun x hx => ?_
  refine if_congr ⟨?_, fun h => ⟨x, List.mem_filter.2 ⟨hx, h.1⟩, h.2, rfl⟩⟩ rfl rfl
  rintro ⟨r, hr, hc, e⟩
  obtain ⟨hr, reached⟩ := List.mem_filter.1 hr
  obtain rfl := List.inj_on_of_nodup_map apart hr hx e
  exact ⟨reached, hc⟩

/-- R69, R115: the state once the zone has been applied to every record that it reaches. -/
def State.zoned : State :=
  { s.toldOf z.kind.late (s.lanesInUse.filter fun k => inLaneSet z.lanes k)
      (s.track.queue.filter fun r => z.reaches r && r.commit == .committed) with
    track := { s.track with
      queue := s.track.queue.map fun r => if z.reaches r = true ∧ r.commit = .uncommitted then z.mark r else r } }

theorem State.foldl_applyZone_reached (apart : s.SerialsApart) :
    (s.track.queue.filter z.reaches).foldl (fun s r => s.applyZone z r) s = s.zoned z := by
  rw [State.foldl_applyZone z _ s (apart.sublist (List.filter_sublist.map _)), markedBy_reached z s apart,
    List.filter_filter]
  simp only [State.zoned, Bool.and_comm]

theorem State.zoned_reachesFrontier : (s.zoned z).reachesFrontier z = s.reachesFrontier z := by
  rw [State.reachesFrontier_eq, State.reachesFrontier_eq, State.zoned]
  dsimp only
  rw [List.getLast?_map]
  cases s.track.queue.getLast? with
  | none => rfl
  | some x =>
    simp only [Option.map_some, Option.all_some]
    split <;> rfl

/-- R70, R71: what becomes of a zone: listed, done with, or dropped as STALE. -/
theorem State.takeZone_zoned (apart : s.SerialsApart) :
    s.takeZone z = if s.reachesFrontier z then (s.zoned z).listZone z
      else if s.track.queue.any z.reaches then s.zoned z
      else (s.zoned z).onTrack fun v => { v with stale := satInc v.stale } := by
  have takes := s.takeZone_eq z
  dsimp only at takes
  rw [takes, State.foldl_applyZone_reached z s apart, State.zoned_reachesFrontier]

/-- R69 to R71: the records and the counters after the zone. -/
theorem State.takeZone_kept (apart : s.SerialsApart) :
    (s.takeZone z).track.queue = (s.zoned z).track.queue
      ∧ (s.takeZone z).disp.counters = (s.zoned z).disp.counters := by
  obtain ⟨queue, -, disp⟩ := (s.zoned z).listZone_kept z
  rw [State.takeZone_zoned z s apart]
  split
  · exact ⟨queue, congrArg (·.counters) disp⟩
  · split <;> exact ⟨rfl, rfl⟩

theorem State.zoned_counters (k : Fin 8) : (s.zoned z).disp.counters[k.val]
    = if k.val < s.job.job.lanes ∧ inLaneSet z.lanes k = true then
        (LaneCounters.bump .lateInfo)^[(s.track.queue.filter fun r =>
          z.reaches r && r.commit == .committed).length] s.disp.counters[k.val]
      else s.disp.counters[k.val] := by
  refine (State.toldOf_counters z.kind.late _ (s.lanesInUse_nodup.filter _) _ s k).trans ?_
  simp only [List.mem_filter, State.mem_lanesInUse]

end take

/-! ## The reports -/

theorem exec_inspect (valid lanes : Byte) (captured : Word) (length : Half) (s : State) (ha : s.addressed = true) :
    exec (.inspect valid lanes captured length) s = .next
      (if s.takesReports = true ∧ (s.inspectZone valid lanes captured length).lanes ≠ 0#8 then
        s.takeZone (s.inspectZone valid lanes captured length) else s) := by
  change execInspect valid lanes captured length s = _
  rw [execInspect, s.ifAddressed_addressed _ ha]

theorem exec_splice (captured : Word) (s : State) (ha : s.addressed = true) :
    exec (.splice captured) s
      = .next (if s.takesReports then s.takeZone (s.spliceZone captured) else s) := by
  change execSplice captured s = _
  rw [execSplice, s.ifAddressed_addressed _ ha]

theorem State.takesReports_iff (s : State) : s.takesReports = true ↔ s.job.state ≠ .config := by
  simp [State.takesReports]

/-- Settles O29: the zone's fields by the reports, its effects by one state for all records that it reaches. -/
theorem reportsReachRecordsAndList : Obligations.ReportsReachRecordsAndList := by
  unfold Obligations.ReportsReachRecordsAndList
  refine ⟨fun lanes k count => ⟨Iff.rfl, lanesBelow_getLsbD count k⟩, fun s ha => ⟨?_, ?_, ?_, ?_, ?_⟩⟩
  · intro valid lanes captured length h
    rw [exec_inspect valid lanes captured length s ha, if_neg]
    rw [State.takesReports_iff]
    rintro ⟨hs, hz⟩
    exact h.elim hs hz
  · intro captured h
    rw [exec_splice captured s ha, if_neg]
    rw [State.takesReports_iff]
    exact fun hs => hs h
  · intro valid lanes captured length hs hz
    rw [exec_inspect valid lanes captured length s ha, if_pos ⟨s.takesReports_iff.2 hs, hz⟩]
    refine ⟨fun h => ?_, fun h => ?_⟩
    · rw [State.inspectZone, flagSet_of_ne h]
      rfl
    · rw [State.inspectZone, h]
      rfl
  · intro captured hs
    rw [exec_splice captured s ha, if_pos (s.takesReports_iff.2 hs)]
    rfl
  · intro z apart
    have lanes : (allLanes.filter fun k => decide (k.val < s.job.job.lanes) && inLaneSet z.lanes k)
        = s.lanesInUse.filter fun k => inLaneSet z.lanes k := by
      rw [State.lanesInUse, List.filter_filter]
      simp only [Bool.and_comm]
    have touches := s.takeZone_touches false z
    obtain ⟨queue, counters⟩ := s.takeZone_kept z apart
    obtain ⟨-, stale, -⟩ := (s.zoned z).listZone_kept z
    have takes := s.takeZone_zoned z apart
    dsimp only
    simp only [← State.reachesFrontier_eq, ← Zone.reaches_eq, lanes, queue]
    refine ⟨fun h => ?_, fun h hit => ?_, fun h miss => ?_, ?_, fun k => ?_, fun h => ?_, fun h => ?_, touches.pos,
      touches.nextSerial, touches.job, touches.reg, touches.cut, touches.link, touches.knife, touches.gate,
      touches.stack⟩
    · rw [takes, if_pos h]
      rfl
    · rw [takes, if_neg (ne_true_of_eq_false h), if_pos hit]
      rfl
    · rw [takes, if_neg (ne_true_of_eq_false h), if_neg (ne_true_of_eq_false miss)]
      rfl
    · simp only [State.zoned, Zone.mark, ZoneKind.flag_eq]
    · rw [counters]
      exact s.zoned_counters z k
    · rw [takes, if_pos h]
      exact ⟨State.listZone_zones_congr (s := s) (u := s.zoned z) rfl z, stale⟩
    · rw [takes, if_neg (ne_true_of_eq_false h)]
      split <;> exact ⟨rfl, rfl⟩

end Sys2Proof.Machine
end

section
/-! The creation of a record (R30, R46, R47): what it appends, and what the registration unit makes of it. -/

namespace Sys2Proof.Machine

/-! ## Pitch samples -/

/-- The state without what a pitch sample may change. -/
def State.unsampled (s : State) : State := { s with
  reg := { s.reg with samples := [], estimate := 0, pitchLow := false, pitchHigh := false }
  sched := s.sched.unnoticed }

theorem State.alarmLow_unsampled (s : State) : s.alarmLow.unsampled = s.unsampled := by
  unfold State.alarmLow
  split
  · rfl
  · unfold State.unsampled State.notify State.onSched
    simp

theorem State.alarmHigh_unsampled (s : State) : s.alarmHigh.unsampled = s.unsampled := by
  unfold State.alarmHigh
  split
  · rfl
  · unfold State.unsampled State.notify State.onSched
    simp

theorem State.compareAlarms_unsampled (s : State) : s.compareAlarms.unsampled = s.unsampled := by
  have low : (if s.reg.estimate < s.job.job.lowThreshold then s.alarmLow else s).unsampled = s.unsampled := by
    split
    · exact s.alarmLow_unsampled
    · rfl
  unfold State.compareAlarms
  dsimp only
  split
  · exact (State.alarmHigh_unsampled _).trans low
  · exact low

/-- R31, R32, R34: a pitch sample changes the ring, the estimate, the alarms and their notices only. -/
theorem State.placeSample_unsampled (sample : Int) (s : State) : (s.placeSample sample).unsampled = s.unsampled := by
  unfold State.placeSample
  dsimp only
  split
  · exact State.compareAlarms_unsampled _
  · rfl

/-- Two states that agree in all that a pitch sample reads, and where p holds in the scheduler too. -/
structure State.SampleAlike (p : Prop) (u v : State) : Prop where
  job : u.job = v.job
  samples : u.reg.samples = v.reg.samples
  estimate : u.reg.estimate = v.reg.estimate
  low : u.reg.pitchLow = v.reg.pitchLow
  high : u.reg.pitchHigh = v.reg.pitchHigh
  sched : p → u.sched = v.sched

section alike
variable {p : Prop} {u v : State}

theorem State.SampleAlike.alarmLow (h : State.SampleAlike p u v) : State.SampleAlike p u.alarmLow v.alarmLow := by
  unfold State.alarmLow
  rw [h.low]
  split
  · exact h
  · exact ⟨h.job, h.samples, h.estimate, rfl, by simp [h.job, h.high],
      fun hp => by simp [State.notify_sched, h.sched hp, h.estimate]⟩

theorem State.SampleAlike.alarmHigh (h : State.SampleAlike p u v) : State.SampleAlike p u.alarmHigh v.alarmHigh := by
  unfold State.alarmHigh
  rw [h.high]
  split
  · exact h
  · exact ⟨h.job, h.samples, h.estimate, by simp [h.job, h.low], rfl,
      fun hp => by simp [State.notify_sched, h.sched hp, h.estimate]⟩

theorem State.SampleAlike.compareAlarms (h : State.SampleAlike p u v) :
    State.SampleAlike p u.compareAlarms v.compareAlarms := by
  have low : State.SampleAlike p (if u.reg.estimate < u.job.job.lowThreshold then u.alarmLow else u)
      (if v.reg.estimate < v.job.job.lowThreshold then v.alarmLow else v) := by
    rw [h.estimate, h.job]
    split
    · exact h.alarmLow
    · exact h
  unfold State.compareAlarms
  dsimp only
  by_cases high : (v.job.job.highThreshold : Int) < v.reg.estimate
  · rw [if_pos high, if_pos (by rw [h.job, h.estimate]; exact high)]
    exact low.alarmHigh
  · rw [if_neg high, if_neg (by rw [h.job, h.estimate]; exact high)]
    exact low

/-- R31, R32: what a pitch sample does rests on no more than the two states agree in. -/
theorem State.SampleAlike.placeSample (h : State.SampleAlike p u v) (sample : Int) :
    State.SampleAlike p (u.placeSample sample) (v.placeSample sample) := by
  have sampled : State.SampleAlike p (u.withSample sample) (v.withSample sample) :=
    ⟨h.job, by simp [State.withSample, h.samples], h.estimate, h.low, h.high, h.sched⟩
  rcases Nat.lt_or_ge ((sample :: v.reg.samples).take 32).length (2 ^ v.job.job.depth) with few | enough
  · rw [v.placeSample_few sample few, u.placeSample_few sample (by rw [h.samples, h.job]; exact few)]
    exact sampled
  · rw [v.placeSample_enough sample enough, u.placeSample_enough sample (by rw [h.samples, h.job]; exact enough)]
    exact State.SampleAlike.compareAlarms
      ⟨sampled.job, sampled.samples, by simp [h.job, sampled.samples], sampled.low, sampled.high, sampled.sched⟩

end alike

/-! ## Slips -/

theorem State.slips_iff (s : State) : s.slips = true ↔ s.SlipDue := by
  simp [State.slips, State.countedDesign, and_assoc]

/-- R38 step 2: a slip is counted and noticed. -/
theorem State.countSlip_eq (s : State) : s.countSlip = { s with
    reg := { s.reg with designSlip := if s.SlipDue then satInc s.reg.designSlip else s.reg.designSlip }
    sched := s.withSlipNotice s.sched } := by
  unfold State.countSlip State.withSlipNotice
  by_cases h : s.SlipDue
  · rw [if_pos (s.slips_iff.2 h), if_pos h, if_pos h]
    rfl
  · rw [if_neg (mt s.slips_iff.1 h), if_neg h, if_neg h]

/-! ## The append -/

/-- What the closing of a record leaves of every record. -/
def Record.held (r : Record) : Word × Word × CutState × CheckState × CommitState × Bool :=
  (r.serial, r.anchor, r.cut, r.check, r.commit, r.tail)

/-- From queue q to queue q', the records of this serial alone changed, and kept what a closing leaves. -/
def OnlyChanges (n : Word) (q q' : List Record) : Prop :=
  ∃ g : Record → Record, (∀ x, (g x).held = x.held) ∧ q' = q.map fun x => if x.serial = n then g x else x

theorem OnlyChanges.refl (n : Word) (q : List Record) : OnlyChanges n q q :=
  ⟨id, fun _ => rfl, by simp⟩

theorem OnlyChanges.trans {n : Word} {q q' q'' : List Record} (h : OnlyChanges n q q') (h' : OnlyChanges n q' q'') :
    OnlyChanges n q q'' := by
  obtain ⟨g, hg, rfl⟩ := h
  obtain ⟨g', hg', rfl⟩ := h'
  refine ⟨g' ∘ g, fun x => (hg' _).trans (hg x), ?_⟩
  rw [List.map_map]
  refine List.map_congr_left fun x _ => ?_
  have serial : (g x).serial = x.serial := congrArg Prod.fst (hg x)
  by_cases h : x.serial = n <;> simp [h, serial]

theorem State.applyZone_onlyChanges (z : Zone) (r : Record) (s : State) :
    OnlyChanges r.serial s.track.queue (s.applyZone z r).track.queue := by
  cases h : r.commit with
  | uncommitted =>
    rw [State.applyZone_of_uncommitted h]
    exact ⟨z.mark, fun _ => rfl, rfl⟩
  | committed =>
    rw [State.applyZone_of_committed h]
    have told : (s.toldOf z.kind.late (s.lanesInUse.filter fun k => inLaneSet z.lanes k) [r]).track = s.track :=
      State.toldOf_track _ _ _ s
    rw [show (s.lanesInUse.filter fun k => inLaneSet z.lanes k).foldl
      (fun s k => s.lateInformation r k z.kind.late) s = s.toldOf z.kind.late
        (s.lanesInUse.filter fun k => inLaneSet z.lanes k) [r] from rfl, told]
    exact .refl _ _

theorem State.closingZone_onlyChanges (serial start stop : Word) (z : Zone) (s : State) :
    OnlyChanges serial s.track.queue (s.closingZone serial start stop z).track.queue := by
  have counted : ∀ u : State, OnlyChanges serial s.track.queue u.track.queue →
      OnlyChanges serial s.track.queue (if behind z.hi stop && behind z.hi start then
        u.onTrack fun t => { t with stale := satInc t.stale } else u).track.queue := by
    intro u h
    split <;> exact h
  unfold State.closingZone
  cases found : (s.fromSerial serial).head? with
  | none => exact counted s (.refl _ _)
  | some r =>
    have hr : r.serial = serial := by
      have := List.head?_dropWhile_not (·.serial != serial) s.track.queue
      rw [show s.track.queue.dropWhile (·.serial != serial) = s.fromSerial serial from rfl, found] at this
      simpa using this
    by_cases reached : z.reaches r = true
    · simp only [reached, if_true]
      exact counted _ (hr ▸ s.applyZone_onlyChanges z r)
    · simp only [reached]
      exact counted s (.refl _ _)

/-- R47, R75: the closing of a record changes the records of its serial only. -/
theorem State.closeRecord_onlyChanges (r : Record) (stop : Word) (s : State) :
    OnlyChanges r.serial s.track.queue (s.closeRecord r stop).track.queue := by
  have swept : ∀ (zs : List Zone) (u : State), OnlyChanges r.serial u.track.queue
      (zs.foldl (fun s z => s.closingZone r.serial r.nominalStart stop z) u).track.queue := by
    intro zs
    induction zs with
    | nil => exact fun u => .refl _ _
    | cons z zs ih => exact fun u => (u.closingZone_onlyChanges r.serial r.nominalStart stop z).trans (ih _)
  have closed : OnlyChanges r.serial s.track.queue
      (s.onRecord r.serial fun x => { x with nominalEnd := some stop }).track.queue :=
    ⟨fun x => { x with nominalEnd := some stop }, fun _ => rfl, rfl⟩
  exact closed.trans (swept _ _)

section joined
variable {s : State} {x : Record}

/-- The state with the record x appended, before the closing of the record before it. -/
def State.queued (s : State) (x : Record) : State := { s with track := { s.track with
  queue := s.track.queue ++ [x], nextSerial := s.track.nextSerial + 1#32 } }

theorem State.joinedBy_of_empty (h : s.track.queue = []) : s.joinedBy x = s.queued x := by
  unfold State.joinedBy
  simp only [h, List.getLast?_nil, State.queued]

theorem State.joinedBy_of_last {young : Record} (h : s.track.queue.getLast? = some young) :
    s.joinedBy x = (s.queued x).closeRecord young x.nominalStart := by
  unfold State.joinedBy
  simp only [h, State.queued]

theorem State.joinedBy_touches (s : State) (x : Record) : Touches true (s.queued x) (s.joinedBy x) := by
  rcases h : s.track.queue.getLast? with _ | young
  · rw [State.joinedBy_of_empty (List.getLast?_eq_none_iff.1 h)]
  · rw [State.joinedBy_of_last h]
    exact State.closeRecord_touches _ _ _

/-- R46, R47: the record x stands last, and the others keep what a closing leaves. -/
theorem State.joinedBy_queue (fresh : ∀ r ∈ s.track.queue, r.serial ≠ x.serial) :
    (s.joinedBy x).track.queue.getLast? = some x
      ∧ (s.joinedBy x).track.queue.dropLast.map Record.held = s.track.queue.map Record.held := by
  rcases h : s.track.queue.getLast? with _ | young
  · rw [State.joinedBy_of_empty (List.getLast?_eq_none_iff.1 h)]
    simp [State.queued]
  · obtain ⟨g, hg, closed⟩ := (s.queued x).closeRecord_onlyChanges young x.nominalStart
    have other : x.serial ≠ young.serial := (fresh young (List.mem_of_getLast? h)).symm
    rw [State.joinedBy_of_last h, closed]
    simp only [State.queued, List.map_append, List.map_cons, List.map_nil, if_neg other, List.getLast?_concat,
      List.dropLast_concat, List.map_map, true_and]
    refine List.map_congr_left fun y _ => ?_
    by_cases hy : y.serial = young.serial <;> simp [hy, hg]

theorem State.ClosesAlike.joinedBy {a b : State} (h : a.ClosesAlike b) (x : Record) :
    (a.joinedBy x).ClosesAlike (b.joinedBy x) := by
  have queued : (a.queued x).ClosesAlike (b.queued x) :=
    State.ClosesAlike.onTrack (fun u => { u with queue := u.queue ++ [x], nextSerial := u.nextSerial + 1#32 }) h
  rcases hl : b.track.queue.getLast? with _ | young
  · rw [State.joinedBy_of_empty (List.getLast?_eq_none_iff.1 hl),
      State.joinedBy_of_empty (by rw [h.1]; exact List.getLast?_eq_none_iff.1 hl)]
    exact queued
  · rw [State.joinedBy_of_last hl, State.joinedBy_of_last (by rw [h.1]; exact hl)]
    exact queued.closeRecord young x.nominalStart

/-- R75: where the record before is uncommitted, its closing changes the tracking unit only. -/
theorem State.joinedBy_sched (apart : s.SerialsApart) (fresh : ∀ r ∈ s.track.queue, r.serial ≠ x.serial)
    (uncommitted : s.YoungestUncommitted) : (s.joinedBy x).sched = s.sched := by
  rcases h : s.track.queue.getLast? with _ | young
  · rw [State.joinedBy_of_empty (List.getLast?_eq_none_iff.1 h)]
    rfl
  · obtain ⟨older, hq⟩ := List.getLast?_eq_some_iff.1 h
    have apart' : (s.queued x).SerialsApart := by
      unfold State.SerialsApart at apart ⊢
      simp only [State.queued, List.map_append, List.map_cons, List.map_nil, List.nodup_append, List.mem_map,
        List.mem_singleton]
      refine ⟨apart, by simp, ?_⟩
      rintro _ ⟨y, hy, rfl⟩ _ rfl
      exact fresh y hy
    rw [State.joinedBy_of_last h, State.closeRecord_split (older := older) (younger := [x]) apart'
      (by simp [State.queued, hq]) (uncommitted young h)]
    rfl

end joined

end Sys2Proof.Machine
end

section
/-! Predictions and marks (R26 to R30): which record each creates. -/

namespace Sys2Proof.Machine

section create
variable (s : State) (anchor : Word) (origin : Origin) (cls : RegState)

/-- R30: the state once the record has joined, before its pitch sample. -/
def State.withNext : State := s.countSlip.joinedBy (s.nextRecord anchor origin cls)

/-- R30, R31: the same state with the pitch sample, if the record gives one. -/
def State.withNextSampled : State :=
  if origin = .marked ∧ s.reg.lastOrigin = some .marked then
    (s.withNext anchor origin cls).placeSample (diff anchor s.reg.lastAnchor)
  else s.withNext anchor origin cls

theorem State.countSlip_nextRecord :
    s.countSlip.nextRecord anchor origin cls = s.nextRecord anchor origin cls := by
  rw [State.countSlip_eq]
  rfl

theorem State.withNext_touches :
    Touches true (s.countSlip.queued (s.nextRecord anchor origin cls)) (s.withNext anchor origin cls) :=
  s.countSlip.joinedBy_touches _

theorem State.withNext_reg : (s.withNext anchor origin cls).reg
    = { s.reg with designSlip := if s.SlipDue then satInc s.reg.designSlip else s.reg.designSlip } := by
  rw [(s.withNext_touches anchor origin cls).reg, State.countSlip_eq]
  rfl

/-- R30: the creation of a record, in its three stages. -/
theorem State.createRecord_eq : s.createRecord anchor origin cls
    = (s.withNextSampled anchor origin cls).onReg fun r =>
        { r with lastAnchor := anchor, lastOrigin := some origin, design := s.designByRule,
                 cyclePending := false, firstRecord := false } := by
  have design : s.nextDesign = s.countSlip.designByRule := by
    rw [State.nextDesign_eq, State.countSlip_eq]
  have lastOrigin : (s.withNext anchor origin cls).reg.lastOrigin = s.reg.lastOrigin := by
    rw [State.withNext_reg]
  have lastAnchor : (s.withNext anchor origin cls).reg.lastAnchor = s.reg.lastAnchor := by
    rw [State.withNext_reg]
  unfold State.createRecord State.withNextSampled
  dsimp only
  rw [design, State.append_eq, State.countSlip_nextRecord,
    show s.countSlip.joinedBy (s.nextRecord anchor origin cls) = s.withNext anchor origin cls from rfl, lastOrigin,
    lastAnchor, ← design, State.nextDesign_eq]

theorem State.withNextSampled_unsampled :
    (s.withNextSampled anchor origin cls).unsampled = (s.withNext anchor origin cls).unsampled := by
  unfold State.withNextSampled
  split
  · exact State.placeSample_unsampled _ _
  · rfl

/-- R30: a creation keeps all but the queue, the registration unit's updates and the notices, as `withNext` has it. -/
theorem State.createRecord_kept :
    (s.createRecord anchor origin cls).track = (s.withNext anchor origin cls).track
      ∧ (s.createRecord anchor origin cls).disp = (s.withNext anchor origin cls).disp
      ∧ (s.createRecord anchor origin cls).stk = (s.withNext anchor origin cls).stk
      ∧ (s.createRecord anchor origin cls).link = s.link ∧ (s.createRecord anchor origin cls).cut = s.cut
      ∧ (s.createRecord anchor origin cls).job = s.job ∧ (s.createRecord anchor origin cls).pending = s.pending
      ∧ (s.createRecord anchor origin cls).sched.unnoticed = s.sched.unnoticed := by
  have sampled := s.withNextSampled_unsampled anchor origin cls
  have touches := s.withNext_touches anchor origin cls
  have slip : (s.withSlipNotice s.sched).unnoticed = s.sched.unnoticed := by
    unfold State.withSlipNotice
    split
    · exact Scheduler.notify_unnoticed _ _ _ _
    · rfl
  rw [State.createRecord_eq]
  refine ⟨(congrArg State.track sampled :), (congrArg State.disp sampled :), (congrArg State.stk sampled :),
    (congrArg State.link sampled :).trans (touches.link.trans ?_), (congrArg State.cut sampled :).trans (touches.cut.trans ?_),
    (congrArg State.job sampled :).trans (touches.job.trans ?_), (congrArg State.pending sampled :).trans (touches.pending.trans ?_),
    (congrArg State.sched sampled :).trans ((congrArg (·.sched) touches.untouched :).trans ?_)⟩
  · rw [State.countSlip_eq]; rfl
  · rw [State.countSlip_eq]; rfl
  · rw [State.countSlip_eq]; rfl
  · rw [State.countSlip_eq]; rfl
  · rw [State.countSlip_eq]
    exact slip

/-- R30: the registration unit after a creation, but for what a pitch sample changes. -/
theorem State.createRecord_reg :
    ({ (s.createRecord anchor origin cls).reg with samples := [], estimate := 0, pitchLow := false, pitchHigh := false }
        : Registration)
      = { s.reg with
          samples := [], estimate := 0, pitchLow := false, pitchHigh := false, lastAnchor := anchor
          lastOrigin := some origin, design := s.designByRule, cyclePending := false, firstRecord := false
          designSlip := if s.SlipDue then satInc s.reg.designSlip else s.reg.designSlip } := by
  have sampled := congrArg State.reg (s.withNextSampled_unsampled anchor origin cls)
  have stamped := congrArg (fun r : Registration =>
    ({ r with lastAnchor := anchor, lastOrigin := some origin, design := s.designByRule,
              cyclePending := false, firstRecord := false } : Registration)) sampled
  rw [State.createRecord_eq]
  refine Eq.trans (stamped :) ?_
  unfold State.unsampled
  dsimp only
  rw [State.withNext_reg]

/-- R30, R46, R47: a creation appends the record. -/
theorem State.createRecord_appended (fresh : s.NextSerialFree) :
    s.Appended (s.createRecord anchor origin cls) anchor origin cls := by
  obtain ⟨track, disp, stk, link, cut, job, -, sched⟩ := s.createRecord_kept anchor origin cls
  have reg := s.createRecord_reg anchor origin cls
  have touches := s.withNext_touches anchor origin cls
  have alike : (s.withNext anchor origin cls).ClosesAlike (s.joinedBy (s.nextRecord anchor origin cls)) :=
    State.ClosesAlike.joinedBy (by rw [State.countSlip_eq]; exact ⟨rfl, rfl, rfl, rfl⟩) _
  obtain ⟨last, others⟩ := s.joinedBy_queue (x := s.nextRecord anchor origin cls) fresh
  have whole : (s.createRecord anchor origin cls).track = (s.joinedBy (s.nextRecord anchor origin cls)).track :=
    track.trans alike.1
  have joined := s.joinedBy_touches (s.nextRecord anchor origin cls)
  refine ⟨by rw [whole]; exact last, whole, disp.trans alike.2.1, stk.trans alike.2.2.1, ?_, ?_,
    (congrArg (·.lastAnchor) reg :), (congrArg (·.lastOrigin) reg :), (congrArg (·.design) reg :),
    (congrArg (·.cyclePending) reg :), (congrArg (·.firstRecord) reg :), (congrArg (·.designSlip) reg :), ?_, ?_, ?_,
    (congrArg (·.edges) reg :), (congrArg (·.seekSkip) reg :), (congrArg (·.stray) reg :), link, cut, job, ?_, ?_, ?_, ?_,
    (congrArg (·.knife) sched :), (congrArg (·.gate) sched :), (congrArg (·.stack) sched :)⟩
  · rw [whole, joined.queue_length]
    simp [State.queued]
  · rw [whole, joined.nextSerial]
    rfl
  · rw [whole]
    exact others
  · rw [whole, joined.pos]; rfl
  · rw [whole, joined.posHeld]; rfl
  · rw [stk, alike.2.2.1, joined.cfg]; rfl
  · rw [disp, alike.2.1, joined.disp]; rfl
  · rw [disp, alike.2.1, joined.overrides]; rfl
  · rw [disp, alike.2.1, joined.lateGates]; rfl

/-- R31, R38: the state with the slip notice and the pitch sample of the next record, and no more. -/
def State.sampledBy : State :=
  let noticed : State := { s with sched := s.withSlipNotice s.sched }
  if origin = .marked ∧ s.reg.lastOrigin = some .marked then noticed.placeSample (diff anchor s.reg.lastAnchor)
  else noticed

/-- R31, R38: what a creation makes of the ring, the estimate and the alarms, and of the notices. -/
theorem State.createRecord_sampleAlike :
    State.SampleAlike (s.SerialsApart ∧ s.NextSerialFree ∧ s.YoungestUncommitted)
      (s.createRecord anchor origin cls) (s.sampledBy anchor origin) := by
  have touches := s.withNext_touches anchor origin cls
  have reg := s.withNext_reg anchor origin cls
  have joined : State.SampleAlike (s.SerialsApart ∧ s.NextSerialFree ∧ s.YoungestUncommitted)
      (s.withNext anchor origin cls) { s with sched := s.withSlipNotice s.sched } := by
    refine ⟨?_, by rw [reg], by rw [reg], by rw [reg], by rw [reg], fun ⟨apart, fresh, uncommitted⟩ => ?_⟩
    · rw [touches.job, State.countSlip_eq]
      rfl
    · have track : s.countSlip.track = s.track := by rw [State.countSlip_eq]
      have apart' : s.countSlip.SerialsApart := by rw [State.SerialsApart, track]; exact apart
      have fresh' : ∀ r ∈ s.countSlip.track.queue, r.serial ≠ (s.nextRecord anchor origin cls).serial := by
        rw [track]; exact fresh
      have uncommitted' : s.countSlip.YoungestUncommitted := by rw [State.YoungestUncommitted, track]; exact uncommitted
      rw [State.withNext, State.joinedBy_sched apart' fresh' uncommitted', State.countSlip_eq]
  have sampled : State.SampleAlike (s.SerialsApart ∧ s.NextSerialFree ∧ s.YoungestUncommitted)
      (s.withNextSampled anchor origin cls) (s.sampledBy anchor origin) := by
    unfold State.withNextSampled State.sampledBy
    dsimp only
    split
    · exact joined.placeSample _
    · exact joined
  rw [State.createRecord_eq]
  exact ⟨sampled.job, sampled.samples, sampled.estimate, sampled.low, sampled.high, sampled.sched⟩

theorem State.createRecord_state : (s.createRecord anchor origin cls).reg.state = s.reg.state :=
  (congrArg (·.state) (s.createRecord_reg anchor origin cls) :)

theorem State.createRecord_missing : (s.createRecord anchor origin cls).reg.missing = s.reg.missing :=
  (congrArg (·.missing) (s.createRecord_reg anchor origin cls) :)

/-- R31: a record that no mark brought gives no pitch sample. -/
theorem State.sampledBy_unmarked {origin : Origin} (h : origin ≠ .marked) :
    s.sampledBy anchor origin = { s with sched := s.withSlipNotice s.sched } := by
  unfold State.sampledBy
  exact if_neg fun marked => h marked.1

end create

/-- What an append reads of a state leaves open the registration state, the missing-mark counter, the ring and the
notices. -/
theorem State.Appended.of_prepared {s t : State} {anchor : Word} {origin : Origin} {cls : RegState} (state : RegState)
    (missing : Nat) (samples : List Int) (q : Scheduler)
    (same : q.knife = s.sched.knife ∧ q.gate = s.sched.gate ∧ q.stack = s.sched.stack)
    (h : State.Appended { s with
      reg := { s.reg with state := state, missing := missing, samples := samples }, sched := q } t anchor origin cls) :
    s.Appended t anchor origin cls := by
  obtain ⟨knife, gate, stack⟩ := same
  have alike : State.ClosesAlike ({ s with
      reg := { s.reg with state := state, missing := missing, samples := samples }, sched := q } : State) s :=
    ⟨rfl, rfl, rfl, rfl⟩
  have joined := alike.joinedBy (s.nextRecord anchor origin cls)
  obtain ⟨h1, h2, h3, h4, h5, h6, h7, h8, h9, h10, h11, h12, h13, h14, h15, h16, h17, h18, h19, h20, h21, h22, h23,
    h24, h25, h26, h27, h28⟩ := h
  exact ⟨h1, h2.trans joined.1, h3.trans joined.2.1, h4.trans joined.2.2.1, h5, h6, h7, h8, h9, h10, h11, h12, h13, h14,
    h15, h16, h17, h18, h19, h20, h21, h22, h23, h24, h25, h26.trans knife, h27.trans gate, h28.trans stack⟩

/-- The registration state, the missing-mark counter and notices after an append leave it one. -/
theorem State.Appended.restated {s t : State} {anchor : Word} {origin : Origin} {cls : RegState}
    (h : s.Appended t anchor origin cls) (state : RegState) (missing : Nat) (q : Scheduler)
    (same : q.knife = t.sched.knife ∧ q.gate = t.sched.gate ∧ q.stack = t.sched.stack) :
    s.Appended { t with reg := { t.reg with state := state, missing := missing }, sched := q } anchor origin cls := by
  obtain ⟨knife, gate, stack⟩ := same
  obtain ⟨h1, h2, h3, h4, h5, h6, h7, h8, h9, h10, h11, h12, h13, h14, h15, h16, h17, h18, h19, h20, h21, h22, h23,
    h24, h25, h26, h27, h28⟩ := h
  exact ⟨h1, h2, h3, h4, h5, h6, h7, h8, h9, h10, h11, h12, h13, h14, h15, h16, h17, h18, h19, h20, h21, h22, h23, h24,
    h25, knife.trans h26, gate.trans h27, stack.trans h28⟩

/-! ## Predictions -/

section predict
variable {s : State}

theorem State.predictOne_idle (h : s.job.state ≠ .run) : s.predictOne = none := by
  unfold State.predictOne
  rw [if_neg h]

theorem State.predictOne_free (hr : s.job.state = .run) (hf : s.reg.state = .free) :
    s.predictOne = if s.freeDue then some s.predictFree else none := by
  unfold State.predictOne
  simp only [hr, hf, if_true]

theorem State.predictOne_registered (hr : s.job.state = .run) (hf : s.reg.state ≠ .free) :
    s.predictOne = if s.predictionDue then some (s.predictMark s.reg.state) else none := by
  unfold State.predictOne
  rw [if_pos hr]
  cases h : s.reg.state with
  | free => exact absurd h hf
  | acquire => rfl
  | locked => rfl

/-- R29: a prediction within the missing limit. -/
theorem State.predictMark_within {cls : RegState} (room : s.track.queue.length < 256)
    (h : s.reg.missing + 1 ≤ s.job.job.missingLimit) : s.predictMark cls
      = (s.onReg fun r => { r with missing := r.missing + 1 }).createRecord s.expected .predicted cls := by
  unfold State.predictMark
  rw [State.withRoom_room _ _ room, if_pos h]

/-- R29: a prediction past the missing limit. -/
theorem State.predictMark_past {cls : RegState} (room : s.track.queue.length < 256)
    (h : s.job.job.missingLimit < s.reg.missing + 1) : s.predictMark cls
      = ((s.setRegState .free).clearMissing.clearRing).createRecord s.expected .free .free := by
  unfold State.predictMark
  rw [State.withRoom_room _ _ room, if_neg h.not_ge]

end predict

/-- Settles O20: each prediction is the creation of its record. -/
theorem predictionCreatesTheRecord : Obligations.PredictionCreatesTheRecord := by
  unfold Obligations.PredictionCreatesTheRecord
  refine ⟨fun s h => State.predictOne_idle h, fun s hr room fresh => ?_⟩
  dsimp only
  refine ⟨fun hf due => ?_, fun hf due => ?_, fun hf due within => ?_, fun hf due past => ?_, fun hf due => ?_⟩
  · have alike := s.createRecord_sampleAlike (shift s.reg.lastAnchor s.job.job.pitch) .free .free
    rw [State.sampledBy_unmarked s _ (by decide)] at alike
    refine ⟨_, (State.predictOne_free hr hf).trans (if_pos due), ?_⟩
    rw [State.predictFree, State.withRoom_room _ _ room]
    exact ⟨s.createRecord_appended _ _ _ fresh, (s.createRecord_state _ _ _).trans hf, s.createRecord_missing _ _ _,
      alike.samples, ⟨alike.estimate, alike.low, alike.high⟩,
      fun apart uncommitted => alike.sched ⟨apart, fresh, uncommitted⟩⟩
  · exact (State.predictOne_free hr hf).trans (if_neg (ne_true_of_eq_false due))
  · have alike := (s.onReg fun r => { r with missing := r.missing + 1 }).createRecord_sampleAlike s.expected .predicted
      s.reg.state
    rw [State.sampledBy_unmarked _ _ (by decide)] at alike
    refine ⟨_, (State.predictOne_registered hr hf).trans (if_pos due), ?_⟩
    rw [State.predictMark_within room within]
    exact ⟨.of_prepared s.reg.state (s.reg.missing + 1) s.reg.samples s.sched ⟨rfl, rfl, rfl⟩
        (State.createRecord_appended _ _ _ _ fresh),
      State.createRecord_state _ _ _ _, State.createRecord_missing _ _ _ _, alike.samples,
      ⟨alike.estimate, alike.low, alike.high⟩,
      fun apart uncommitted => alike.sched ⟨apart, fresh, uncommitted⟩⟩
  · have freed : (s.setRegState .free).clearMissing.clearRing = { s with
        reg := { s.reg with state := .free, missing := 0, samples := [] }
        sched := s.sched.notify .regState none 0#32 } := by
      rw [State.setRegState_free, if_neg hf]
      rfl
    have alike := ((s.setRegState .free).clearMissing.clearRing).createRecord_sampleAlike s.expected .free .free
    rw [State.sampledBy_unmarked _ _ (by decide)] at alike
    refine ⟨_, (State.predictOne_registered hr hf).trans (if_pos due), ?_⟩
    rw [State.predictMark_past room past]
    rw [freed] at alike ⊢
    obtain ⟨knife, gate, stack, -⟩ := s.sched.notify_frame .regState none 0#32
    exact ⟨.of_prepared .free 0 [] _ ⟨knife, gate, stack⟩ (State.createRecord_appended _ _ _ _ fresh),
      State.createRecord_state _ _ _ _, State.createRecord_missing _ _ _ _, alike.samples,
      ⟨alike.estimate, alike.low, alike.high⟩,
      fun apart uncommitted => alike.sched ⟨apart, fresh, uncommitted⟩⟩
  · exact (State.predictOne_registered hr hf).trans (if_neg (ne_true_of_eq_false due))

/-! ## Marks -/

theorem fromThrough_iff (x lo hi : Word) :
    fromThrough x lo hi = true ↔ atOrBeyond x lo = true ∧ atOrBeyond hi x = true := by
  simp [fromThrough]

/-- Settles O21: an accepted mark is the creation of its record, and in FREE the change to ACQUIRE. -/
theorem markCreatesTheRecord : Obligations.MarkCreatesTheRecord := by
  unfold Obligations.MarkCreatesTheRecord
  refine ⟨fromThrough_iff, fun captured s ha hr room fresh near => ?_⟩
  have sampled : s.sampledBy captured .marked
      = if s.reg.lastOrigin = some .marked then
          ({ s with sched := s.withSlipNotice s.sched } : State).placeSample (diff captured s.reg.lastAnchor)
        else { s with sched := s.withSlipNotice s.sched } := by
    unfold State.sampledBy
    simp only [true_and]
  have inReach : s.farAhead captured = false := near
  dsimp only
  rw [← sampled, exec_markev_registration captured s ha hr]
  refine ⟨fun hf seek => ?_, fun hf window => ?_⟩
  · have accepted : (!s.farAhead captured && s.inSeekInterval captured) = true := by
      rw [inReach, show s.inSeekInterval captured = true from seek]
      rfl
    have alike := s.createRecord_sampleAlike captured .marked .free
    have free := (s.createRecord_state captured .marked .free).trans hf
    have acquired : ((s.createRecord captured .marked .free).setRegState .acquire).clearMissing
        = { s.createRecord captured .marked .free with
            reg := { (s.createRecord captured .marked .free).reg with state := .acquire, missing := 0 }
            sched := (s.createRecord captured .marked .free).sched.notify .regState none 1#32 } := by
      rw [State.setRegState, if_neg (by rw [free]; decide)]
      rfl
    obtain ⟨knife, gate, stack, -⟩ := (s.createRecord captured .marked .free).sched.notify_frame .regState none 1#32
    rw [State.takeMark_free s captured hf, if_pos accepted, State.withRoom_room _ _ room, acquired]
    exact ⟨_, rfl, (s.createRecord_appended _ _ _ fresh).restated .acquire 0 _ ⟨knife, gate, stack⟩, rfl, rfl,
      ⟨alike.samples, alike.estimate, alike.low, alike.high⟩,
      fun apart uncommitted => congrArg (Scheduler.notify .regState none 1#32) (alike.sched ⟨apart, fresh, uncommitted⟩)⟩
  · have accepted : (!s.farAhead captured && s.inWindow captured) = true := by
      rw [inReach, show s.inWindow captured = true from window]
      rfl
    have alike := s.createRecord_sampleAlike captured .marked s.reg.state
    rw [State.takeMark_registered s captured hf, if_pos accepted, State.withRoom_room _ _ room]
    exact ⟨_, rfl, s.createRecord_appended _ _ _ fresh, s.createRecord_state _ _ _, rfl,
      ⟨alike.samples, alike.estimate, alike.low, alike.high⟩,
      fun apart uncommitted => alike.sched ⟨apart, fresh, uncommitted⟩⟩

end Sys2Proof.Machine
end

section
/-! The commit (R105, R112, R113): one lane, then all lanes in use one after another. -/

namespace Sys2Proof.Machine

/-! ## The decision of one lane -/

/-- R108: the decision changes its lane and may queue a STACK item, and no more. -/
theorem State.decideLane_state (s : State) (r : Record) (k : Fin 8) : ∃ l items, (s.decideLane r k).2 = { s with
    stk := { s.stk with lanes := s.stk.lanes.set k.val l }
    sched := { s.sched with stack := s.sched.stack ++ items } } := by
  rcases s.decideLane_cases r k with ⟨outcome, cause, -, decided⟩ | ⟨-, -, decided⟩ | ⟨-, -, answer, l, -, decided⟩
  · exact ⟨s.lane k, [], by rw [decided]; simp⟩
  · exact ⟨{ s.lane k with gap := (s.lane k).gap - 1 }, [], by rw [decided]; simp [State.onLane, State.onStk, modAt]; rfl⟩
  · exact ⟨_, _, by rw [decided]; exact s.requestChange_onLane k fun _ => l⟩

/-- R43: exactly the STACK decisions have a stack reference. -/
theorem State.decideLane_ref (s : State) (r : Record) (k : Fin 8) :
    (s.decideLane r k).1.ref.isSome = true ↔ (s.decideLane r k).1.outcome = .stack := by
  rcases s.decideLane_cases r k with ⟨outcome, cause, early, decided⟩ | ⟨-, -, decided⟩ | ⟨-, -, answer, l, -, decided⟩
  · rw [decided]
    rcases s.firstNineSteps_cases r k with ⟨outcome', cause', early', which⟩ | ⟨none_early, -⟩
    · obtain ⟨rfl, -⟩ := Prod.mk.inj (Option.some.inj (early.symm.trans early'))
      rcases which with rfl | rfl | rfl <;> simp
    · rw [early] at none_early
      cases none_early
  · rw [decided]
    simp
  · rw [decided]
    cases answer <;> simp [AssignAnswer.decision]

/-! ## The commit of one lane -/

section lane
variable (s : State) (r : Record) (cutLine labelEnd : Word) (k : Fin 8)

/-- R105 actions 1 and 2: the state with lane k decided and recorded. -/
def State.recordedLane : State :=
  (s.decideLane r k).2.onRecord r.serial
    (Record.decided (s.disp.overrideFor r.serial k) (s.decideLane r k).1 k)

/-- R105: a STACK label is charged nothing and has no gate item. -/
theorem State.commitLane_stack (h : (s.decideLane r k).1.outcome = .stack) :
    s.commitLane r cutLine labelEnd k = s.recordedLane r k := by
  have uncharged : (s.decideLane r k).1.outcome.counter = none := by rw [h]; rfl
  unfold State.commitLane
  simp only [uncharged]
  rfl

/-- R105: any other label is charged to its counter and has a gate item. -/
theorem State.commitLane_charged {which : LaneCounter} (h : (s.decideLane r k).1.outcome.counter = some which) :
    s.commitLane r cutLine labelEnd k
      = ((s.recordedLane r k).charge k which).gateLabel r.serial cutLine labelEnd k := by
  unfold State.commitLane
  simp only [h]
  rfl

theorem LabelOutcome.counter_cases (o : LabelOutcome) : o = .stack ∨ ∃ which, o.counter = some which := by
  cases o <;> simp [LabelOutcome.counter]

/-- The state without all that a commit may change. -/
def State.uncommitted : State := { s with
  track := { s.track with queue := [] }
  disp := { s.disp with counters := Vector.replicate 8 .zero }
  stk := { s.stk with lanes := Vector.replicate 8 .powerOn }
  sched := { s.sched with gate := [], stack := [] } }

/-- R113: the gate items of the label rest on the GATE queue, the STATION record and the LANE entry. -/
theorem State.gateLabel_gate_congr {s u : State} (gate : u.sched.gate = s.sched.gate) (job : u.job = s.job)
    (cfg : u.stk.cfg = s.stk.cfg) (serial cutLine labelEnd : Word) (k : Fin 8) :
    (u.gateLabel serial cutLine labelEnd k).sched.gate = (s.gateLabel serial cutLine labelEnd k).sched.gate := by
  simp only [State.gateLabel, State.onSched_sched, gate, State.gateClose, State.gateOpen, State.cfg, job, cfg]
  split <;> rfl

/-- R113: the GATE queue after the label of lane k: other lanes keep their items, the lane's last item ends with the
label, and the queue has one item more at most, and none more where the lane's last item was extended. -/
theorem State.gateLabel_gate (serial : Word) :
    (∀ j, j ≠ k → (s.gateLabel serial cutLine labelEnd k).sched.gate.filter (·.lane == j)
        = s.sched.gate.filter (·.lane == j))
      ∧ ((s.gateLabel serial cutLine labelEnd k).sched.gate.filter (·.lane == k)).getLast?.map (·.last) = some serial
      ∧ (s.gateLabel serial cutLine labelEnd k).sched.gate.length
        = s.sched.gate.length + if coalescable s.sched.gate k serial then 0 else 1 := by
  by_cases joins : coalescable s.sched.gate k serial = true
  · rw [State.gateLabel_extends joins, if_pos joins, State.onSched_sched]
    rcases gate_split s.sched.gate k with none_of | ⟨before, g, after, hq, hg, others⟩
    · rw [coalescable_none none_of] at joins
      cases joins
    · rw [hq, extendItem_split hg others]
      refine ⟨fun j hj => ?_, ?_, by simp⟩
      · have : ¬g.lane = j := fun e => hj (e.symm.trans hg)
        simp [List.filter_append, this]
      · rw [filter_lane_split (g := { g with closePos := s.gateClose labelEnd k, last := serial }) hg others]
        simp
  · rw [State.gateLabel_joins (Bool.eq_false_iff.2 joins), if_neg joins, State.onSched_sched]
    refine ⟨fun j hj => ?_, ?_, by simp⟩
    · simp [List.filter_append, Ne.symm hj]
    · simp [List.filter_append]

end lane

/-! ## What a commit leaves alone -/

/-- What the commit of lanes ks of record r leaves alone from u to t, and how it changes the record and the GATE
queue. -/
structure CommitFrame (r : Record) (ks : List (Fin 8)) (u t : State) : Prop where
  rest : t.uncommitted = u.uncommitted
  lane : ∀ j ∉ ks, t.lane j = u.lane j
  counters : ∀ j ∉ ks, t.disp.counters[j.val] = u.disp.counters[j.val]
  gateOf : ∀ j ∉ ks, t.sched.gate.filter (·.lane == j) = u.sched.gate.filter (·.lane == j)
  record : ∃ g : Record → Record, t.track = (u.onRecord r.serial g).track
    ∧ ∀ x, g x = { x with lanes := (g x).lanes } ∧ ∀ j ∉ ks, (g x).lanes[j.val] = x.lanes[j.val]
  gate : t.sched.gate.length
    ≤ u.sched.gate.length + (ks.filter fun j => !coalescable u.sched.gate j r.serial).length

theorem State.onRecord_onRecord (s : State) (n : Word) (f g : Record → Record) (hf : ∀ x, (f x).serial = x.serial) :
    (s.onRecord n f).onRecord n g = s.onRecord n (g ∘ f) := by
  simp only [State.onRecord, State.onTrack, List.map_map]
  congr 2
  refine List.map_congr_left fun x _ => ?_
  by_cases h : x.serial = n <;> simp [h, hf]

theorem State.onRecord_track_congr {s u : State} (h : u.track = s.track) (n : Word) (f : Record → Record) :
    (u.onRecord n f).track = (s.onRecord n f).track := by
  rw [State.onRecord, State.onTrack_track, State.onRecord, State.onTrack_track, h]

theorem CommitFrame.refl (r : Record) (u : State) : CommitFrame r [] u u where
  rest := rfl
  lane _ _ := rfl
  counters _ _ := rfl
  gateOf _ _ := rfl
  record := ⟨id, by simp [State.onRecord, State.onTrack], fun _ => ⟨rfl, fun _ _ => rfl⟩⟩
  gate := by simp

theorem CommitFrame.trans {r : Record} {ks ks' : List (Fin 8)} {u v t : State} (h : CommitFrame r ks u v)
    (h' : CommitFrame r ks' v t) (apart : ∀ j ∈ ks', j ∉ ks) : CommitFrame r (ks ++ ks') u t where
  rest := h'.rest.trans h.rest
  lane j hj := by
    obtain ⟨hk, hk'⟩ := not_or.1 (mt List.mem_append.2 hj)
    exact (h'.lane j hk').trans (h.lane j hk)
  counters j hj := by
    obtain ⟨hk, hk'⟩ := not_or.1 (mt List.mem_append.2 hj)
    exact (h'.counters j hk').trans (h.counters j hk)
  gateOf j hj := by
    obtain ⟨hk, hk'⟩ := not_or.1 (mt List.mem_append.2 hj)
    exact (h'.gateOf j hk').trans (h.gateOf j hk)
  record := by
    obtain ⟨g, hg, keeps⟩ := h.record
    obtain ⟨g', hg', keeps'⟩ := h'.record
    refine ⟨g' ∘ g, ?_, fun x => ⟨?_, fun j hj => ?_⟩⟩
    · rw [hg', State.onRecord_track_congr hg, State.onRecord_onRecord]
      exact fun x => by rw [(keeps x).1]
    · rw [Function.comp_apply, (keeps' (g x)).1, (keeps x).1]
    · obtain ⟨hk, hk'⟩ := not_or.1 (mt List.mem_append.2 hj)
      exact ((keeps' (g x)).2 j hk').trans ((keeps x).2 j hk)
  gate := by
    have same : (ks'.filter fun j => !coalescable v.sched.gate j r.serial)
        = ks'.filter fun j => !coalescable u.sched.gate j r.serial :=
      List.filter_congr fun j hj => by rw [coalescable_eq, coalescable_eq, h.gateOf j (apart j hj)]
    have := h.gate
    have := h'.gate
    rw [same] at this
    rw [List.filter_append, List.length_append]
    omega

/-- R105: what the commit of one lane leaves alone. -/
theorem State.commitLane_frame (s : State) (r : Record) (cutLine labelEnd : Word) (k : Fin 8) :
    CommitFrame r [k] s (s.commitLane r cutLine labelEnd k) := by
  obtain ⟨l, items, decided⟩ := s.decideLane_state r k
  have record : ∃ g : Record → Record,
      (s.commitLane r cutLine labelEnd k).track = (s.onRecord r.serial g).track
        ∧ ∀ x, g x = { x with lanes := (g x).lanes } ∧ ∀ j ∉ [k], (g x).lanes[j.val] = x.lanes[j.val] := by
    refine ⟨_, s.commitLane_track r cutLine labelEnd k, fun x => ⟨rfl, fun j hj => ?_⟩⟩
    exact modAt_ne x.lanes k j _ (Ne.symm (by simpa using hj))
  have recorded : s.recordedLane r k = ({ s with
      stk := { s.stk with lanes := s.stk.lanes.set k.val l }
      sched := { s.sched with stack := s.sched.stack ++ items } } : State).onRecord r.serial
        (Record.decided (s.disp.overrideFor r.serial k) (s.decideLane r k).1 k) := by
    rw [State.recordedLane, decided]
  have lanes : ∀ j ∉ [k], (s.stk.lanes.set k.val l)[j.val] = s.stk.lanes[j.val] := fun j hj => by
    have : k.val ≠ j.val := fun e => hj (by simp [Fin.ext e])
    rw [Vector.getElem_set_ne _ _ this]
  rcases (s.decideLane r k).1.outcome.counter_cases with h | ⟨which, h⟩
  · rw [s.commitLane_stack r cutLine labelEnd k h] at record ⊢
    rw [recorded] at record ⊢
    exact ⟨rfl, lanes, fun _ _ => rfl, fun _ _ => rfl, record, Nat.le_add_right _ _⟩
  · rw [s.commitLane_charged r cutLine labelEnd k h] at record ⊢
    rw [recorded] at record ⊢
    obtain ⟨others, -, length⟩ := State.gateLabel_gate ((({ s with
      stk := { s.stk with lanes := s.stk.lanes.set k.val l }
      sched := { s.sched with stack := s.sched.stack ++ items } } : State).onRecord r.serial
        (Record.decided (s.disp.overrideFor r.serial k) (s.decideLane r k).1 k)).charge k which) cutLine labelEnd k
      r.serial
    refine ⟨?_, lanes, fun j hj => ?_, fun j hj => others j (by simpa using hj), record, ?_⟩
    · unfold State.gateLabel State.onSched State.uncommitted
      dsimp only
      split <;> rfl
    · exact modAt_ne s.disp.counters k j _ (Ne.symm (by simpa using hj))
    · refine length.le.trans (Nat.add_le_add_left ?_ _)
      by_cases joins : coalescable s.sched.gate k r.serial = true
      · exact (if_pos joins).le.trans (Nat.zero_le _)
      · have one : ([k].filter fun j => !coalescable s.sched.gate j r.serial) = [k] := by simp [joins]
        rw [one]
        exact (if_neg joins).le

/-- R105: the lanes ks one after another. -/
def State.commitLanes (r : Record) (cutLine labelEnd : Word) (ks : List (Fin 8)) (s : State) : State :=
  ks.foldl (fun s k => s.commitLane r cutLine labelEnd k) s

theorem State.commitLanes_frame (r : Record) (cutLine labelEnd : Word) (ks : List (Fin 8)) (distinct : ks.Nodup)
    (s : State) : CommitFrame r ks s (s.commitLanes r cutLine labelEnd ks) := by
  induction ks generalizing s with
  | nil => exact .refl r s
  | cons k ks ih =>
    obtain ⟨hk, distinct⟩ := List.nodup_cons.1 distinct
    refine (s.commitLane_frame r cutLine labelEnd k).trans (ih distinct _) fun j hj => ?_
    rw [List.mem_singleton]
    rintro rfl
    exact hk hj

end Sys2Proof.Machine
end

section
/-! The commit as a whole (R57, R105), and O38. -/

namespace Sys2Proof.Machine

section self
variable (s : State) (r : Record) (cutLine labelEnd : Word) (k : Fin 8)

theorem State.recordedLane_gate : (s.recordedLane r k).sched.gate = s.sched.gate
    ∧ (s.recordedLane r k).job = s.job ∧ (s.recordedLane r k).stk.cfg = s.stk.cfg
    ∧ (s.recordedLane r k).disp = s.disp := by
  obtain ⟨l, items, decided⟩ := s.decideLane_state r k
  rw [State.recordedLane, decided]
  exact ⟨rfl, rfl, rfl, rfl⟩

/-- R105: what the commit of a lane makes of the lane itself. -/
theorem State.commitLane_lane :
    (s.commitLane r cutLine labelEnd k).lane k = (s.decideLane r k).2.lane k := by
  rcases (s.decideLane r k).1.outcome.counter_cases with h | ⟨which, h⟩
  · rw [s.commitLane_stack r cutLine labelEnd k h]
    rfl
  · rw [s.commitLane_charged r cutLine labelEnd k h]
    rfl

/-- R105, R109: a STACK label is charged nothing, any other its counter. -/
theorem State.commitLane_counters : (s.commitLane r cutLine labelEnd k).disp.counters[k.val]
    = ((s.decideLane r k).1.outcome.counter.elim id LaneCounters.bump) s.disp.counters[k.val] := by
  obtain ⟨-, -, -, disp⟩ := s.recordedLane_gate r k
  rcases (s.decideLane r k).1.outcome.counter_cases with h | ⟨which, h⟩
  · rw [s.commitLane_stack r cutLine labelEnd k h, disp, h]
    rfl
  · rw [s.commitLane_charged r cutLine labelEnd k h, h]
    refine (modAt_self _ k _).trans ?_
    rw [disp]
    rfl

/-- R105, R113: a STACK label has no gate item. -/
theorem State.commitLane_gate_stack (h : (s.decideLane r k).1.outcome = .stack) :
    (s.commitLane r cutLine labelEnd k).sched.gate = s.sched.gate := by
  rw [s.commitLane_stack r cutLine labelEnd k h, (s.recordedLane_gate r k).1]

/-- R105, R113: the gate item of any other label. -/
theorem State.commitLane_gate (h : (s.decideLane r k).1.outcome ≠ .stack) :
    (s.commitLane r cutLine labelEnd k).sched.gate = (s.gateLabel r.serial cutLine labelEnd k).sched.gate := by
  obtain ⟨gate, job, cfg, -⟩ := s.recordedLane_gate r k
  obtain ⟨which, h⟩ := (s.decideLane r k).1.outcome.counter_cases.resolve_left h
  rw [s.commitLane_charged r cutLine labelEnd k h]
  exact State.gateLabel_gate_congr gate job cfg _ _ _ _

/-- R105: what the commit of a lane writes into the record. -/
theorem State.commitLane_record : (s.commitLane r cutLine labelEnd k).track
    = (s.onRecord r.serial (Record.decided (s.disp.overrideFor r.serial k) (s.decideLane r k).1 k)).track :=
  s.commitLane_track r cutLine labelEnd k

end self

/-! ## The order of the lanes -/

theorem split_at_of_sorted {l : List (Fin 8)} (sorted : l.Pairwise (· < ·)) {k : Fin 8} (hk : k ∈ l) :
    l = l.filter (fun j => decide (j < k)) ++ k :: l.filter (fun j => decide (k < j)) := by
  induction l with
  | nil => cases hk
  | cons x xs ih =>
    obtain ⟨above, sorted⟩ := List.pairwise_cons.1 sorted
    rcases List.mem_cons.1 hk with rfl | hk
    · have none_below : xs.filter (fun j => decide (j < k)) = [] :=
        List.filter_eq_nil_iff.2 fun j hj => by simpa using (above j hj).le
      have all_above : xs.filter (fun j => decide (k < j)) = xs :=
        List.filter_eq_self.2 fun j hj => by simpa using above j hj
      simp [none_below, all_above]
    · have below : x < k := above k hk
      rw [List.filter_cons_of_pos (by simpa using below), List.filter_cons_of_neg (by simpa using below.le),
        List.cons_append, ← ih sorted hk]

theorem State.lanesInUse_sorted (s : State) : s.lanesInUse.Pairwise (· < ·) :=
  List.Pairwise.filter _ (by decide)

theorem foldl_congr_of_kept {σ α : Type} {f g : σ → α → σ} (kept : σ → Prop)
    (step : ∀ s x, kept s → f s x = g s x ∧ kept (f s x)) (l : List α) (s : σ) (h : kept s) :
    l.foldl f s = l.foldl g s := by
  induction l generalizing s with
  | nil => rfl
  | cons x xs ih =>
    obtain ⟨same, kept'⟩ := step s x h
    rw [List.foldl_cons, List.foldl_cons, ← same, ih _ kept']

/-! ## The commit -/

section commit
variable {s : State} {r : Record} {cutLine labelEnd : Word}

theorem State.gateRoom_iff (s : State) (serial : Word) : s.gateRoom serial = true ↔
    (s.lanesInUse.filter fun k => !coalescable s.sched.gate k serial).length ≤ 16 - s.sched.gate.length := by
  rw [State.gateRoom, decide_eq_true_iff]
  rfl

theorem State.commit_held (h : s.gateRoom r.serial = false) : s.commit r cutLine labelEnd = s := by
  rw [State.commit, if_neg (ne_true_of_eq_false h)]

theorem State.commit_passes (h : s.gateRoom r.serial = true) : s.commit r cutLine labelEnd
    = (s.commitLanes r cutLine labelEnd s.lanesInUse).onRecord r.serial fun x => { x with commit := .committed } := by
  rw [State.commit, if_pos h]
  rfl

/-- R105: lane k within the commit: the lanes below it, the lane, and the lanes above it. -/
theorem State.commitLanes_split (s : State) (r : Record) (cutLine labelEnd : Word) {k : Fin 8}
    (hk : k.val < s.job.job.lanes) : s.commitLanes r cutLine labelEnd s.lanesInUse
      = ((s.commitLanes r cutLine labelEnd (s.lanesInUse.filter fun j => decide (j < k))).commitLane r cutLine labelEnd
          k).commitLanes r cutLine labelEnd (s.lanesInUse.filter fun j => decide (k < j)) := by
  have split := split_at_of_sorted s.lanesInUse_sorted ((s.mem_lanesInUse k).2 hk)
  calc s.commitLanes r cutLine labelEnd s.lanesInUse
      = s.commitLanes r cutLine labelEnd (s.lanesInUse.filter (fun j => decide (j < k))
          ++ k :: s.lanesInUse.filter fun j => decide (k < j)) := by rw [← split]
    _ = _ := by rw [State.commitLanes, List.foldl_append, List.foldl_cons]; rfl

/-- What the commit of the lanes in use makes of lane k, `left` being the state that the lanes below it left. -/
structure LaneCommitted (s t left : State) (r : Record) (x : Record) (cutLine labelEnd : Word) (k : Fin 8) : Prop where
  entry : x.lanes[k.val] = { r.lanes[k.val] with
    override := s.disp.overrideFor r.serial k
    outcome := some (left.decideLane r k).1.outcome
    stackRef := (left.decideLane r k).1.ref }
  lane : t.lane k = (left.decideLane r k).2.lane k
  counters : t.disp.counters[k.val]
    = ((left.decideLane r k).1.outcome.counter.elim id LaneCounters.bump) s.disp.counters[k.val]
  gate_stack : (left.decideLane r k).1.outcome = .stack →
    t.sched.gate.filter (·.lane == k) = s.sched.gate.filter (·.lane == k)
  gate : (left.decideLane r k).1.outcome ≠ .stack →
    t.sched.gate.filter (·.lane == k)
        = (left.gateLabel r.serial cutLine labelEnd k).sched.gate.filter (·.lane == k)
      ∧ (t.sched.gate.filter (·.lane == k)).getLast?.map (·.last) = some r.serial

theorem State.onRecord_inj (hr : r ∈ s.track.queue) {f g : Record → Record}
    (h : (s.onRecord r.serial f).track = (s.onRecord r.serial g).track) : f r = g r := by
  have := List.map_inj_left.1 (congrArg (·.queue) h) r hr
  simpa using this

theorem State.overrideFor_congr {s u : State} (h : u.uncommitted = s.uncommitted) (serial : Word) (k : Fin 8) :
    u.disp.overrideFor serial k = s.disp.overrideFor serial k := by
  have overrides : u.disp.overrides = s.disp.overrides := (congrArg (·.disp.overrides) h :)
  rw [Disposition.overrideFor, Disposition.overrideFor, overrides]

/-- R105: the commit of the lanes in use, lane by lane. -/
theorem State.commitLanes_lane (hr : r ∈ s.track.queue) (cutLine labelEnd : Word) {g : Record → Record}
    (hg : (s.commitLanes r cutLine labelEnd s.lanesInUse).track = (s.onRecord r.serial g).track) {k : Fin 8}
    (hk : k.val < s.job.job.lanes) : LaneCommitted s (s.commitLanes r cutLine labelEnd s.lanesInUse)
      (s.commitLanes r cutLine labelEnd (s.lanesInUse.filter fun j => decide (j < k))) r (g r) cutLine labelEnd k := by
  have below := State.commitLanes_frame r cutLine labelEnd (s.lanesInUse.filter fun j => decide (j < k))
    (s.lanesInUse_nodup.filter _) s
  rw [State.commitLanes_split s r cutLine labelEnd hk] at hg ⊢
  generalize s.commitLanes r cutLine labelEnd (s.lanesInUse.filter fun j => decide (j < k)) = left at below hg ⊢
  have above := State.commitLanes_frame r cutLine labelEnd (s.lanesInUse.filter fun j => decide (k < j))
    (s.lanesInUse_nodup.filter _) (left.commitLane r cutLine labelEnd k)
  have notBelow : k ∉ s.lanesInUse.filter fun j => decide (j < k) := by simp
  have notAbove : k ∉ s.lanesInUse.filter fun j => decide (k < j) := by simp
  obtain ⟨g₁, track₁, keeps₁⟩ := below.record
  obtain ⟨g₃, track₃, keeps₃⟩ := above.record
  have override := State.overrideFor_congr below.rest r.serial k
  have record : g r = g₃ (Record.decided (s.disp.overrideFor r.serial k) (left.decideLane r k).1 k (g₁ r)) := by
    refine State.onRecord_inj (g := g₃ ∘ Record.decided (s.disp.overrideFor r.serial k) (left.decideLane r k).1 k ∘ g₁)
      hr ?_
    rw [← hg, track₃, State.onRecord_track_congr (left.commitLane_record r cutLine labelEnd k),
      State.onRecord_onRecord _ _ _ _ (Record.decided_serial _ _ _), State.onRecord_track_congr track₁,
      State.onRecord_onRecord _ _ g₁ _ (fun x => by rw [(keeps₁ x).1]), override]
    rfl
  refine ⟨?_, ?_, ?_, fun h => ?_, fun h => ?_⟩
  · rw [record, (keeps₃ _).2 k notAbove]
    refine (modAt_self _ k _).trans ?_
    rw [(keeps₁ r).2 k notBelow]
  · rw [above.lane k notAbove, State.commitLane_lane]
  · rw [above.counters k notAbove, State.commitLane_counters, below.counters k notBelow]
  · rw [above.gateOf k notAbove, State.commitLane_gate_stack _ _ _ _ _ h, below.gateOf k notBelow]
  · rw [above.gateOf k notAbove, State.commitLane_gate _ _ _ _ _ h]
    exact ⟨rfl, (left.gateLabel_gate cutLine labelEnd k r.serial).2.1⟩

/-- R57, R112: a commit that passes the gate room test leaves 16 gate items at most. -/
theorem State.commitLanes_gate_length (h : s.gateRoom r.serial = true) (fits : s.sched.gate.length ≤ 16) :
    (s.commitLanes r cutLine labelEnd s.lanesInUse).sched.gate.length ≤ 16 := by
  have frame := (State.commitLanes_frame r cutLine labelEnd s.lanesInUse s.lanesInUse_nodup s).gate
  have room := (s.gateRoom_iff r.serial).1 h
  omega

end commit

/-- Settles O38: the lanes by the frame of a commit and by the lane's own part in it. -/
theorem commitDecidesEveryLane : Obligations.CommitDecidesEveryLane := by
  unfold Obligations.CommitDecidesEveryLane
  refine ⟨fun c => ⟨rfl, rfl, rfl, rfl, rfl, rfl, rfl, rfl⟩, fun s r cutLine labelEnd apart hr fits => ?_⟩
  intro joins lanes needed recorded charged decided
  have room : s.gateRoom r.serial = true ↔ needed ≤ 16 - s.sched.gate.length := by
    rw [s.gateRoom_iff]
    simp only [coalescable_eq]
    rfl
  have step : ∀ (u : State) (k : Fin 8), u.uncommitted = s.uncommitted →
      u.commitLane r cutLine labelEnd k = decided u k
        ∧ (u.commitLane r cutLine labelEnd k).uncommitted = s.uncommitted := by
    intro u k same
    refine ⟨?_, (u.commitLane_frame r cutLine labelEnd k).rest.trans same⟩
    have written : u.recordedLane r k = recorded k (u.decideLane r k).1 (u.decideLane r k).2 := by
      rw [State.recordedLane, State.overrideFor_congr same]
      rfl
    have stacked := u.commitLane_stack r cutLine labelEnd k
    have counted := fun which => u.commitLane_charged r cutLine labelEnd k (which := which)
    rw [written] at stacked counted
    simp only [decided]
    cases h : (u.decideLane r k).1.outcome with
    | stack => exact stacked h
    | reject => exact counted .rejected (by rw [h]; rfl)
    | waste => exact counted .wasted (by rw [h]; rfl)
    | divert => exact counted .diverted (by rw [h]; rfl)
    | gap => exact counted .gap (by rw [h]; rfl)
  have folds : ∀ ks : List (Fin 8), ks.foldl decided s = s.commitLanes r cutLine labelEnd ks := fun ks =>
    (foldl_congr_of_kept (fun u : State => u.uncommitted = s.uncommitted) step ks s rfl).symm
  refine ⟨fun full => State.commit_held (Bool.eq_false_iff.2 (mt room.1 full.not_ge)), fun enough => ?_⟩
  have passes := room.2 enough
  intro t u
  have committed : t = (s.commitLanes r cutLine labelEnd s.lanesInUse).onRecord r.serial
      fun x => { x with commit := .committed } := State.commit_passes passes
  have whole : t = u.onRecord r.serial fun x => { x with commit := .committed } := committed.trans (congrArg
      (State.onRecord r.serial fun x => { x with commit := .committed }) (folds s.lanesInUse).symm)
  refine ⟨whole, ?_⟩
  have frame := State.commitLanes_frame r cutLine labelEnd s.lanesInUse s.lanesInUse_nodup s
  obtain ⟨g, track, keeps⟩ := frame.record
  rw [committed]
  have rest := frame.rest
  refine ⟨{ g r with commit := .committed }, ?_, ?_, fun k hk => ?_, fun k hk => ?_,
    State.commitLanes_gate_length passes fits, (congrArg (·.sched.knife) rest :), (congrArg (·.sched.notices) rest :),
    (congrArg (·.reg) rest :), (congrArg (·.cut) rest :), (congrArg (·.job) rest :), (congrArg (·.link) rest :),
    (congrArg (·.disp.disp) rest :), (congrArg (·.disp.overrides) rest :), (congrArg (·.disp.lateGates) rest :)⟩
  · obtain ⟨older, younger, hq⟩ := List.append_of_mem hr
    rw [State.onRecord_track_congr track, State.onRecord_onRecord _ _ g _ (fun x => by rw [(keeps x).1])]
    have written := map_serial_split apart hq ((fun x => { x with commit := .committed }) ∘ g)
    have named := map_serial_split apart hq fun _ => { g r with commit := .committed }
    refine congrArg (fun q => ({ s.track with queue := q } : Tracking)) (written.trans named.symm)
  · dsimp only
    rw [(keeps r).1]
  · have notIn : k ∉ s.lanesInUse := fun h => absurd ((s.mem_lanesInUse k).1 h) hk.not_gt
    exact ⟨(keeps r).2 k notIn, frame.counters k notIn, frame.lane k notIn⟩
  · have lane := State.commitLanes_lane hr cutLine labelEnd track hk
    intro left d
    have same : left = s.commitLanes r cutLine labelEnd (s.lanesInUse.filter fun j => decide (j < k)) := folds _
    rw [← same] at lane
    refine ⟨lane.entry, left.decideLane_ref r k, lane.lane, ?_, lane.gate_stack, lane.gate⟩
    refine lane.counters.trans ?_
    split <;> next h => rw [show (left.decideLane r k).1.outcome = _ from h]; rfl

end Sys2Proof.Machine
end

section
/-! The arrival of the oldest record (R58, R114, R117, R127, R128), and O41. -/

namespace Sys2Proof.Machine

/-! ## One label landing -/

theorem StackLane.changing_eq (l : StackLane) : l.changing = l.list.head?.any (·.state == .changing) := by
  unfold StackLane.changing
  cases l.list <;> rfl

/-- R127: the label of this number lands in the lane: it is READY, the stack stands, and nothing overruns. -/
def StackLane.Lands (cfg : LaneCfg) (number : Nat) (l : StackLane) : Prop :=
  l.state = .ready ∧ number ∈ l.list.map (·.number)
    ∧ ¬(l.changing = true ∧ cfg.holdLimit < (l.land number).heldTotal)

section land
variable (s : State) (k : Fin 8) (n : Nat)

theorem State.landLabel_of_fault (h : (s.lane k).state = .fault) : s.landLabel k n = (false, s) := by
  rw [State.landLabel, if_pos h]

theorem State.landLabel_of_absent (h : n ∉ (s.lane k).list.map (·.number)) : s.landLabel k n = (false, s) := by
  have absent : (s.lane k).list.all (·.number != n) = true := by
    rw [List.all_eq_true]
    exact fun x hx => by simpa using fun e => h (List.mem_map.2 ⟨x, hx, e⟩)
  unfold State.landLabel
  by_cases hf : (s.lane k).state = .fault
  · rw [if_pos hf]
  · rw [if_neg hf, if_pos absent]

/-- R127, R128: a label of a stack that stands in a READY lane lands, or overruns the hold limit. -/
theorem State.landLabel_of_present (hr : (s.lane k).state = .ready) (h : n ∈ (s.lane k).list.map (·.number)) :
    s.landLabel k n = if (s.lane k).changing = true ∧ (s.cfg k).holdLimit < ((s.lane k).land n).heldTotal then
      (false, (s.onLane k (·.land n)).faultLane k .holdOverrun) else (true, (s.onLane k (·.land n)).requestChange k) := by
  have present : ¬(s.lane k).list.all (·.number != n) = true := by
    rw [List.all_eq_true]
    intro all
    obtain ⟨x, hx, e⟩ := List.mem_map.1 h
    simpa [e] using all x hx
  unfold State.landLabel
  dsimp only
  rw [if_neg (by rw [hr]; decide), if_neg present, s.onLane_lane_self k]

/-- R127, R128: the three ways of a landing. -/
theorem State.landLabel_cases :
    (s.landLabel k n = (false, s) ∧ ¬(s.lane k).Lands (s.cfg k) n)
    ∨ (s.landLabel k n = (false, (s.onLane k (·.land n)).faultLane k .holdOverrun)
        ∧ (s.lane k).state = .ready ∧ n ∈ (s.lane k).list.map (·.number) ∧ ¬(s.lane k).Lands (s.cfg k) n)
    ∨ (s.landLabel k n = (true, (s.onLane k (·.land n)).requestChange k) ∧ (s.lane k).Lands (s.cfg k) n) := by
  by_cases hr : (s.lane k).state = .ready
  · by_cases hn : n ∈ (s.lane k).list.map (·.number)
    · have landing := s.landLabel_of_present k n hr hn
      by_cases overruns : (s.lane k).changing = true ∧ (s.cfg k).holdLimit < ((s.lane k).land n).heldTotal
      · exact .inr (.inl ⟨landing.trans (if_pos overruns), hr, hn, fun lands => lands.2.2 overruns⟩)
      · exact .inr (.inr ⟨landing.trans (if_neg overruns), hr, hn, overruns⟩)
    · exact .inl ⟨s.landLabel_of_absent k n hn, fun lands => hn lands.2.1⟩
  · refine .inl ⟨s.landLabel_of_fault k n ?_, fun lands => hr lands.1⟩
    cases hs : (s.lane k).state with
    | ready => exact absurd hs hr
    | fault => rfl

theorem State.landLabel_lands : (s.landLabel k n).1 = true ↔ (s.lane k).Lands (s.cfg k) n := by
  rcases s.landLabel_cases k n with ⟨landing, none⟩ | ⟨landing, -, -, none⟩ | ⟨landing, lands⟩
  · simp [landing, none]
  · simp [landing, none]
  · simp [landing, lands]

end land

/-- R127: where no other stack has the number, the landing changes that stack alone. -/
theorem StackLane.land_split {l : StackLane} {older younger : List StackRec} {x : StackRec} {n : Nat}
    (hl : l.list = older ++ x :: younger) (hx : x.number = n) (others : ∀ y ∈ older ++ younger, y.number ≠ n) :
    (l.land n).list = older ++ { x with
      arrived := x.arrived + 1, held := if l.changing then x.held + 1 else x.held } :: younger := by
  have same : ∀ q : List StackRec, (∀ y ∈ q, y.number ≠ n) → q.map (fun r => if r.number = n then
      { r with arrived := r.arrived + 1, held := if l.changing then r.held + 1 else r.held } else r) = q :=
    fun q h => (List.map_congr_left fun y hy => if_neg (h y hy)).trans (List.map_id q)
  unfold StackLane.land
  dsimp only
  rw [hl, List.map_append, List.map_cons, same older fun y hy => others y (by simp [hy]),
    same younger fun y hy => others y (by simp [hy]), if_pos hx]

/-- R128: the held total after a landing. -/
theorem StackLane.land_heldTotal {l : StackLane} {n : Nat} (distinct : (l.list.map (·.number)).Nodup)
    (hn : n ∈ l.list.map (·.number)) :
    (l.land n).heldTotal = l.heldTotal + if l.changing then 1 else 0 := by
  obtain ⟨x, hx, hxn⟩ := List.mem_map.1 hn
  obtain ⟨older, younger, hl⟩ := List.append_of_mem hx
  have others : ∀ y ∈ older ++ younger, y.number ≠ n := by
    rw [hl, List.map_append, List.map_cons, List.nodup_middle, List.nodup_cons] at distinct
    rintro y hy rfl
    exact distinct.1 (by rw [hxn, ← List.map_append]; exact List.mem_map_of_mem hy)
  unfold StackLane.heldTotal
  rw [StackLane.land_split hl hxn others, hl]
  cases l.changing
  · simp
  · simp only [if_true, List.map_append, List.map_cons, List.sum_append, List.sum_cons]
    omega

/-! ## What an arrival leaves alone -/

/-- The state without all that a landing and a late gate may change. -/
def State.unarrived (s : State) : State := { s with
  disp := { s.disp with counters := Vector.replicate 8 .zero, lateGates := Vector.replicate 8 [] }
  stk := { s.stk with lanes := Vector.replicate 8 .powerOn }
  sched := { s.sched.unnoticed with stack := [] } }

/-- What landings and late gates of lanes ks leave alone from u to t. -/
structure ArriveFrame (ks : List (Fin 8)) (u t : State) : Prop where
  rest : t.unarrived = u.unarrived
  lane : ∀ j ∉ ks, t.lane j = u.lane j
  counters : ∀ j ∉ ks, t.disp.counters[j.val] = u.disp.counters[j.val]

theorem ArriveFrame.refl (ks : List (Fin 8)) (u : State) : ArriveFrame ks u u :=
  ⟨rfl, fun _ _ => rfl, fun _ _ => rfl⟩

theorem ArriveFrame.trans {ks ks' : List (Fin 8)} {u v t : State} (h : ArriveFrame ks u v) (h' : ArriveFrame ks' v t) :
    ArriveFrame (ks ++ ks') u t :=
  ⟨h'.rest.trans h.rest,
    fun j hj => (h'.lane j (fun m => hj (List.mem_append_right _ m))).trans
      (h.lane j fun m => hj (List.mem_append_left _ m)),
    fun j hj => (h'.counters j (fun m => hj (List.mem_append_right _ m))).trans
      (h.counters j fun m => hj (List.mem_append_left _ m))⟩

theorem ArriveFrame.same {k : Fin 8} {u v t : State} (h : ArriveFrame [k] u v) (h' : ArriveFrame [k] v t) :
    ArriveFrame [k] u t :=
  ⟨h'.rest.trans h.rest, fun j hj => (h'.lane j hj).trans (h.lane j hj),
    fun j hj => (h'.counters j hj).trans (h.counters j hj)⟩

theorem getElem_set_of_not_mem {α : Type} (v : Vector α 8) {k j : Fin 8} (hj : j ∉ [k]) (x : α) :
    (v.set k.val x)[j.val] = v[j.val] :=
  Vector.getElem_set_ne _ _ fun e => hj (by simp [Fin.ext e])

section frame
variable (s : State) (k : Fin 8)

theorem ArriveFrame.onLane (f : StackLane → StackLane) : ArriveFrame [k] s (s.onLane k f) :=
  ⟨rfl, fun j hj => s.onLane_lane_ne k j f (Ne.symm (by simpa using hj)), fun _ _ => rfl⟩

theorem ArriveFrame.charge (which : LaneCounter) : ArriveFrame [k] s (s.charge k which) :=
  ⟨rfl, fun _ _ => rfl, fun j hj => modAt_ne _ _ _ _ (Ne.symm (by simpa using hj))⟩

theorem ArriveFrame.onLateGates (f : List SerialRange → List SerialRange) : ArriveFrame [k] s (s.onLateGates k f) :=
  ⟨rfl, fun _ _ => rfl, fun _ _ => rfl⟩

theorem ArriveFrame.notify (kind : NoticeKind) (lane : Option (Fin 8)) (v : Word) :
    ArriveFrame [k] s (s.notify kind lane v) :=
  ⟨by unfold State.unarrived State.notify State.onSched; simp, fun _ _ => rfl, fun _ _ => rfl⟩

theorem ArriveFrame.requestChange : ArriveFrame [k] s (s.requestChange k) := by
  rw [State.requestChange_eq]
  exact ⟨rfl, fun j hj => getElem_set_of_not_mem _ hj _, fun _ _ => rfl⟩

theorem ArriveFrame.lateInformation (r : Record) (kind : LateKind) : ArriveFrame [k] s (s.lateInformation r k kind) := by
  rw [State.lateInformation_eq]
  exact ((ArriveFrame.charge s k .lateInfo).same (.notify _ k .lateInfo (some k) r.serial)).same (.onLane _ k _)

/-- R138: no job ends while a record stands. -/
theorem State.completeEnding_of_queue {s : State} (h : s.track.queue ≠ []) : s.completeEnding = s := by
  rw [State.completeEnding, if_neg fun ends => h ends.2.1]

theorem ArriveFrame.faultLane (cause : FaultCause) (h : s.track.queue ≠ []) :
    ArriveFrame [k] s (s.faultLane k cause) := by
  have faulted : ArriveFrame [k] s { s with
      stk := { s.stk with lanes := s.stk.lanes.set k.val ((s.lane k).faulted cause) }
      sched := { s.sched with stack := s.sched.stack.filter (·.lane != k) } } :=
    ⟨rfl, fun j hj => getElem_set_of_not_mem _ hj _, fun _ _ => rfl⟩
  have noticed := faulted.same (.notify _ k .stackerFault (some k) (BitVec.ofNat 32 cause.code))
  rw [s.faultLane_eq k cause]
  exact (congrArg (ArriveFrame [k] s) (State.completeEnding_of_queue (by exact h))).mpr noticed

theorem ArriveFrame.landLabel (n : Nat) (h : s.track.queue ≠ []) : ArriveFrame [k] s (s.landLabel k n).2 := by
  have landed := ArriveFrame.onLane s k (·.land n)
  rcases s.landLabel_cases k n with ⟨landing, -⟩ | ⟨landing, -⟩ | ⟨landing, -⟩
  · rw [landing]
    exact .refl _ s
  · rw [landing]
    exact landed.same (.faultLane _ k _ h)
  · rw [landing]
    exact landed.same (.requestChange _ k)

theorem State.arriveLane_stack {r : Record} (h : r.lanes[k.val].outcome = some .stack) :
    s.arriveLane r k = (s.landLabel k (r.lanes[k.val].stackRef.getD 0)).2.charge k
      (if (s.landLabel k (r.lanes[k.val].stackRef.getD 0)).1 = true then .stacked else .lost) := by
  unfold State.arriveLane
  dsimp only
  rw [if_pos h]
  split
  · next t landing => rw [landing]; rfl
  · next t landing => rw [landing]; rfl

theorem State.arriveLane_other {r : Record} (h : r.lanes[k.val].outcome ≠ some .stack) : s.arriveLane r k = s :=
  if_neg h

theorem ArriveFrame.arriveLane (r : Record) (h : s.track.queue ≠ []) : ArriveFrame [k] s (s.arriveLane r k) := by
  by_cases stacked : r.lanes[k.val].outcome = some .stack
  · rw [s.arriveLane_stack k stacked]
    exact (ArriveFrame.landLabel s k _ h).same (.charge _ k _)
  · rw [s.arriveLane_other k stacked]
    exact .refl _ s

end frame

/-! ## Late gates -/

section lateGates
variable {s : State} {r : Record} {k : Fin 8} {gone rest : List SerialRange}

/-- R114: the ranges at the head that end behind the serial go, up to the first that does not. -/
theorem pruneRanges_split {serial : Word} (before : ∀ x ∈ gone, behind x.last serial = true)
    (stands : ∀ x ∈ rest.head?, behind x.last serial = false) : pruneRanges serial (gone ++ rest) = rest := by
  induction gone with
  | nil =>
    cases rest with
    | nil => rfl
    | cons x xs =>
      rw [List.nil_append, pruneRanges, if_neg (ne_true_of_eq_false (stands x rfl))]
  | cons x xs ih =>
    rw [List.cons_append, pruneRanges, if_pos (before x (by simp)), ih fun y hy => before y (by simp [hy])]

theorem State.lateGateCharge_eq (s : State) (r : Record) (k : Fin 8) : s.lateGateCharge r k
    = if headHolds r.serial (pruneRanges r.serial s.disp.lateGates[k.val]) then
        ((s.onLateGates k (pruneRanges r.serial)).lateInformation r k .lateGate).onLateGates k (closeRange r.serial)
      else s.onLateGates k (pruneRanges r.serial) := by
  have pruned : (s.onLateGates k (pruneRanges r.serial)).disp.lateGates[k.val]
      = pruneRanges r.serial s.disp.lateGates[k.val] := modAt_self _ k _
  unfold State.lateGateCharge
  simp only [pruned]

theorem ArriveFrame.lateGateCharge (s : State) (r : Record) (k : Fin 8) : ArriveFrame [k] s (s.lateGateCharge r k) := by
  have pruned := ArriveFrame.onLateGates s k (pruneRanges r.serial)
  rw [State.lateGateCharge_eq]
  split
  · exact (pruned.same (.lateInformation _ k r .lateGate)).same (.onLateGates _ k _)
  · exact pruned

/-- R114, R115, R129: a late gate changes no more of the lane than suspect counts. -/
theorem State.lateGateCharge_lane (s : State) (r : Record) (k : Fin 8) :
    ((s.lateGateCharge r k).lane k).unsuspected = (s.lane k).unsuspected := by
  rw [State.lateGateCharge_eq]
  split
  · rw [State.lateInformation_eq]
    refine Eq.trans (congrArg StackLane.unsuspected (State.onLane_lane_self _ k _)) ?_
    exact LaneEntry.lateMark_unsuspected _ _ _
  · rfl

/-- The counters of a lane without LATE_INFO. -/
def LaneCounters.uninformed (c : LaneCounters) : LaneCounters := { c with lateInfo := 0#32 }

/-- R114, R115: a late gate counts LATE_INFO at most. -/
theorem State.lateGateCharge_counters (s : State) (r : Record) (k : Fin 8) :
    (s.lateGateCharge r k).disp.counters[k.val].uninformed = s.disp.counters[k.val].uninformed := by
  rw [State.lateGateCharge_eq]
  split
  · have counted : ((s.onLateGates k (pruneRanges r.serial)).lateInformation r k .lateGate).disp.counters[k.val]
        = s.disp.counters[k.val].bump .lateInfo := by
      rw [State.lateInformation_counters, State.charge_counters, if_pos rfl]
      rfl
    exact (congrArg LaneCounters.uninformed counted :)
  · rfl

end lateGates

end Sys2Proof.Machine
end

section
/-! What an arrival counts, and O41. -/

namespace Sys2Proof.Machine

/-! ## Folding over the lanes -/

theorem ArriveFrame.track {ks : List (Fin 8)} {u t : State} (h : ArriveFrame ks u t) : t.track = u.track :=
  (congrArg (·.track) h.rest :)

section fold
variable {f : State → Fin 8 → State}
  (step : ∀ (u : State) (k : Fin 8), u.track.queue ≠ [] → ArriveFrame [k] u (f u k))
include step

theorem ArriveFrame.foldl (ks : List (Fin 8)) (u : State) (hq : u.track.queue ≠ []) :
    ArriveFrame ks u (ks.foldl f u) := by
  induction ks generalizing u with
  | nil => exact .refl [] u
  | cons k ks ih =>
    have first := step u k hq
    exact first.trans (ih (f u k) (by rw [first.track]; exact hq))

/-- Lane k within a fold that takes it once: its part comes from the step taken at k. -/
theorem ArriveFrame.foldl_at {ks below above : List (Fin 8)} {k : Fin 8} (split : ks = below ++ k :: above)
    (distinct : ks.Nodup) (u : State) (hq : u.track.queue ≠ []) :
    ∃ left, ArriveFrame below u left ∧ left.lane k = u.lane k
      ∧ left.disp.counters[k.val] = u.disp.counters[k.val]
      ∧ (ks.foldl f u).disp.counters[k.val] = (f left k).disp.counters[k.val]
      ∧ (ks.foldl f u).lane k = (f left k).lane k := by
  subst split
  rw [List.nodup_middle, List.nodup_cons, List.mem_append, not_or] at distinct
  obtain ⟨⟨not_below, not_above⟩, -⟩ := distinct
  have before := ArriveFrame.foldl step below u hq
  have hq' : (below.foldl f u).track.queue ≠ [] := by rw [before.track]; exact hq
  have after := ArriveFrame.foldl step above (f (below.foldl f u) k) (by rw [(step _ k hq').track]; exact hq')
  rw [List.foldl_append, List.foldl_cons]
  exact ⟨_, before, before.lane k not_below, before.counters k not_below, after.counters k not_above,
    after.lane k not_above⟩

end fold

/-! ## What lands does not depend on suspect counts -/

theorem StackLane.land_list_map (l : StackLane) (n : Nat) :
    (l.land n).list.map (·.held) = l.list.map fun x => if x.number = n ∧ l.changing = true then x.held + 1 else x.held := by
  unfold StackLane.land
  rw [List.map_map]
  refine List.map_congr_left fun x _ => ?_
  by_cases hn : x.number = n <;> by_cases hc : l.changing = true <;> simp [hn, hc]

theorem StackLane.unsuspected_changing (l : StackLane) : l.unsuspected.changing = l.changing := by
  rw [StackLane.changing_eq, StackLane.changing_eq]
  cases h : l.list <;> simp [StackLane.unsuspected, h]

theorem StackLane.lands_unsuspected (cfg : LaneCfg) (n : Nat) (l : StackLane) :
    l.unsuspected.Lands cfg n ↔ l.Lands cfg n := by
  have numbers : l.unsuspected.list.map (·.number) = l.list.map (·.number) := by
    simp [StackLane.unsuspected]
  have held : (l.unsuspected.land n).heldTotal = (l.land n).heldTotal := by
    unfold StackLane.heldTotal
    rw [StackLane.land_list_map, StackLane.land_list_map, StackLane.unsuspected_changing]
    simp only [StackLane.unsuspected, List.map_map]
    rfl
  unfold StackLane.Lands
  rw [numbers, held, StackLane.unsuspected_changing]
  rfl

theorem StackLane.lands_congr {l l' : StackLane} (h : l'.unsuspected = l.unsuspected) (cfg : LaneCfg) (n : Nat) :
    l'.Lands cfg n ↔ l.Lands cfg n := by
  rw [← StackLane.lands_unsuspected, h, StackLane.lands_unsuspected]

/-! ## What an arrival counts -/

theorem State.requestChange_disp (s : State) (k : Fin 8) : (s.requestChange k).disp = s.disp := by
  rw [State.requestChange_eq]

theorem State.completeEnding_disp (s : State) : s.completeEnding.disp = s.disp := by
  unfold State.completeEnding
  split <;> rfl

/-- R127, R128: a landing counts nothing itself. -/
theorem State.landLabel_disp (s : State) (k : Fin 8) (n : Nat) : (s.landLabel k n).2.disp = s.disp := by
  rcases s.landLabel_cases k n with ⟨landing, -⟩ | ⟨landing, -⟩ | ⟨landing, -⟩
  · rw [landing]
  · rw [landing]
    exact State.completeEnding_disp _
  · rw [landing]
    exact State.requestChange_disp _ k

/-- R127: the counter that a STACK label is charged to at its arrival in this lane. -/
def StackLane.landingCounter (cfg : LaneCfg) (n : Nat) (l : StackLane) : LaneCounter :=
  if l.state = .ready ∧ n ∈ l.list.map (·.number) ∧ ¬(l.changing = true ∧ cfg.holdLimit < (l.land n).heldTotal) then
    .stacked
  else .lost

theorem StackLane.landingCounter_of_lands {cfg : LaneCfg} {n : Nat} {l : StackLane} (h : l.Lands cfg n) :
    l.landingCounter cfg n = .stacked :=
  if_pos h

theorem StackLane.landingCounter_of_not_lands {cfg : LaneCfg} {n : Nat} {l : StackLane} (h : ¬l.Lands cfg n) :
    l.landingCounter cfg n = .lost :=
  if_neg h

theorem State.arriveLane_counters (s : State) (k : Fin 8) {r : Record} (h : r.lanes[k.val].outcome = some .stack) :
    (s.arriveLane r k).disp.counters[k.val] = s.disp.counters[k.val].bump
      ((s.lane k).landingCounter (s.cfg k) (r.lanes[k.val].stackRef.getD 0)) := by
  rw [s.arriveLane_stack k h, State.charge_counters, if_pos rfl, State.landLabel_disp]
  by_cases lands : (s.lane k).Lands (s.cfg k) (r.lanes[k.val].stackRef.getD 0)
  · rw [StackLane.landingCounter_of_lands lands, if_pos ((s.landLabel_lands k _).2 lands)]
  · rw [StackLane.landingCounter_of_not_lands lands, if_neg (fun h => lands ((s.landLabel_lands k _).1 h))]

theorem LaneCounters.uninformed_bump {which : LaneCounter} (h : which ≠ .lateInfo) (c : LaneCounters) :
    (c.bump which).uninformed = c.uninformed.bump which := by
  cases which with
  | lateInfo => exact absurd rfl h
  | _ => rfl

section arrival
variable {s : State} {r : Record} {rest : List Record}

/-- R58: the late gates of the lanes in use, then their landings. -/
def State.arrived (s : State) (r : Record) : State :=
  s.lanesInUse.foldl (fun v k => v.arriveLane r k) (s.lanesInUse.foldl (fun v k => v.lateGateCharge r k) s)

/-- R58: the state with the oldest record gone. -/
def State.retired (s : State) : State := { s with track := { s.track with queue := s.track.queue.tail } }

theorem State.lateGates_frame (s : State) (r : Record) (hq : s.track.queue ≠ []) :
    ArriveFrame s.lanesInUse s (s.lanesInUse.foldl (fun v k => v.lateGateCharge r k) s) :=
  ArriveFrame.foldl (fun u k _ => ArriveFrame.lateGateCharge u r k) _ s hq

theorem State.arrived_frame (hq : s.track.queue ≠ []) :
    ArriveFrame (s.lanesInUse ++ s.lanesInUse) s (s.arrived r) := by
  have late := s.lateGates_frame r hq
  exact late.trans (ArriveFrame.foldl (fun u k h => ArriveFrame.arriveLane u k r h) _ _ (by rw [late.track]; exact hq))

/-- R58: an arrival, but for what an ENDING that it empties brings. -/
theorem State.arrive_eq (hq : s.track.queue ≠ []) : s.arrive r
    = if s.job.state = .ending ∧ s.track.queue.tail = [] then (s.arrived r).retired.endOfJobClosing
      else (s.arrived r).retired := by
  have late := s.lateGates_frame r hq
  have lanes : (s.lanesInUse.foldl (fun v k => v.lateGateCharge r k) s).lanesInUse = s.lanesInUse :=
    (congrArg State.lanesInUse late.rest :)
  have frame := State.arrived_frame (r := r) hq
  have job : (s.arrived r).job = s.job := (congrArg (·.job) frame.rest :)
  have arrival : s.arrive r = if (s.arrived r).retired.job.state = .ending ∧ (s.arrived r).retired.track.queue = []
      then (s.arrived r).retired.endOfJobClosing else (s.arrived r).retired := by
    unfold State.arrive State.arrived
    dsimp only
    rw [lanes]
    rfl
  rw [arrival]
  refine if_congr ?_ rfl rfl
  show (s.arrived r).job.state = .ending ∧ (s.arrived r).track.queue.tail = [] ↔ _
  rw [job, frame.track]

/-- R138: the end-of-job closing counts nothing and leaves the queue. -/
theorem State.endOfJobClosing_kept (s : State) : s.endOfJobClosing.disp = s.disp
    ∧ s.endOfJobClosing.track = s.track ∧ s.endOfJobClosing.reg = s.reg ∧ s.endOfJobClosing.cut = s.cut
    ∧ s.endOfJobClosing.link = s.link ∧ s.endOfJobClosing.sched.knife = s.sched.knife
    ∧ s.endOfJobClosing.sched.gate = s.sched.gate := by
  have completed (u : State) : u.completeEnding.disp = u.disp ∧ u.completeEnding.track = u.track
      ∧ u.completeEnding.reg = u.reg ∧ u.completeEnding.cut = u.cut ∧ u.completeEnding.link = u.link
      ∧ u.completeEnding.sched.knife = u.sched.knife ∧ u.completeEnding.sched.gate = u.sched.gate := by
    unfold State.completeEnding
    split
    · exact ⟨rfl, rfl, rfl, rfl, rfl, (congrArg Scheduler.knife (Scheduler.notify_unnoticed ..) :),
        (congrArg Scheduler.gate (Scheduler.notify_unnoticed ..) :)⟩
    · exact ⟨rfl, rfl, rfl, rfl, rfl, rfl, rfl⟩
  rw [State.endOfJobClosing_eq]
  exact completed _

/-- R58: an arrival counts what its landings and late gates count, and takes the oldest record. -/
theorem State.arrive_kept (hq : s.track.queue ≠ []) : (s.arrive r).disp = (s.arrived r).disp
    ∧ (s.arrive r).track = { s.track with queue := s.track.queue.tail } ∧ (s.arrive r).reg = s.reg
    ∧ (s.arrive r).cut = s.cut ∧ (s.arrive r).link = s.link ∧ (s.arrive r).sched.knife = s.sched.knife
    ∧ (s.arrive r).sched.gate = s.sched.gate := by
  have frame := State.arrived_frame (r := r) hq
  have track : (s.arrived r).retired.track = { s.track with queue := s.track.queue.tail } :=
    congrArg (fun u => { u with queue := u.queue.tail }) frame.track
  have reg : (s.arrived r).reg = s.reg := (congrArg (·.reg) frame.rest :)
  have cut : (s.arrived r).cut = s.cut := (congrArg (·.cut) frame.rest :)
  have link : (s.arrived r).link = s.link := (congrArg (·.link) frame.rest :)
  have knife : (s.arrived r).sched.knife = s.sched.knife := (congrArg (·.sched.knife) frame.rest :)
  have gate : (s.arrived r).sched.gate = s.sched.gate := (congrArg (·.sched.gate) frame.rest :)
  rw [State.arrive_eq hq]
  split
  · obtain ⟨disp, track', reg', cut', link', knife', gate'⟩ := (s.arrived r).retired.endOfJobClosing_kept
    exact ⟨disp, track'.trans track, reg'.trans reg, cut'.trans cut, link'.trans link, knife'.trans knife,
      gate'.trans gate⟩
  · exact ⟨rfl, track, reg, cut, link, knife, gate⟩

/-- R114, R127: what an arrival counts in one lane, LATE_INFO apart. -/
theorem State.arrive_counters (hq : s.track.queue ≠ []) (k : Fin 8) :
    (k.val < s.job.job.lanes → r.lanes[k.val].outcome = some .stack →
      (s.arrive r).disp.counters[k.val].uninformed = s.disp.counters[k.val].uninformed.bump
        ((s.lane k).landingCounter (s.cfg k) (r.lanes[k.val].stackRef.getD 0)))
    ∧ (s.job.job.lanes ≤ k.val ∨ r.lanes[k.val].outcome ≠ some .stack →
      (s.arrive r).disp.counters[k.val].uninformed = s.disp.counters[k.val].uninformed) := by
  have late := s.lateGates_frame r hq
  have hq' : (s.lanesInUse.foldl (fun v k => v.lateGateCharge r k) s).track.queue ≠ [] := by
    rw [late.track]; exact hq
  rw [(State.arrive_kept hq).1]
  by_cases hk : k.val < s.job.job.lanes
  · have split := split_at_of_sorted s.lanesInUse_sorted ((s.mem_lanesInUse k).2 hk)
    obtain ⟨gates, -, lane, counters, landed, landed_lane⟩ :=
      ArriveFrame.foldl_at (f := fun v k => v.lateGateCharge r k)
        (fun u k _ => ArriveFrame.lateGateCharge u r k) split s.lanesInUse_nodup s hq
    obtain ⟨left, frame, left_lane, left_counters, arrived, -⟩ :=
      ArriveFrame.foldl_at (f := fun v k => v.arriveLane r k)
        (fun u k h => ArriveFrame.arriveLane u k r h) split s.lanesInUse_nodup _ hq'
    have counted : left.disp.counters[k.val].uninformed = s.disp.counters[k.val].uninformed := by
      rw [left_counters, landed, State.lateGateCharge_counters, counters]
    have same_lane : (left.lane k).unsuspected = (s.lane k).unsuspected := by
      rw [left_lane, landed_lane, State.lateGateCharge_lane, lane]
    have cfg : left.cfg k = s.cfg k := (congrArg (·.cfg k) (frame.rest.trans late.rest) :)
    refine ⟨fun _ stacked => ?_, fun other => ?_⟩
    · have which : (left.lane k).landingCounter (left.cfg k) (r.lanes[k.val].stackRef.getD 0)
          = (s.lane k).landingCounter (s.cfg k) (r.lanes[k.val].stackRef.getD 0) := by
        unfold StackLane.landingCounter
        rw [cfg]
        exact if_congr (StackLane.lands_congr same_lane _ _) rfl rfl
      refine Eq.trans (congrArg LaneCounters.uninformed (arrived.trans (left.arriveLane_counters k stacked))) ?_
      rw [LaneCounters.uninformed_bump (by unfold StackLane.landingCounter; split <;> simp), counted, which]
    · have not_stacked := other.resolve_left (by omega)
      refine Eq.trans (congrArg LaneCounters.uninformed arrived) ?_
      rw [left.arriveLane_other k not_stacked, counted]
  · have not_used : k ∉ s.lanesInUse := fun m => hk ((s.mem_lanesInUse k).1 m)
    refine ⟨fun used => absurd used hk, fun _ => ?_⟩
    exact congrArg LaneCounters.uninformed ((State.arrived_frame hq).counters k (by simpa using not_used))

end arrival

/-! ## O41 -/

theorem StackLane.changing_iff (l : StackLane) : l.changing = true ↔ l.list.head?.map (·.state) = some .changing := by
  rw [StackLane.changing_eq]
  cases l.list <;> simp

/-- R127, R128: where the numbers of the list differ, a label lands unless the hold limit stands in its way. -/
theorem StackLane.lands_of_distinct {l : StackLane} {cfg : LaneCfg} {n : Nat}
    (distinct : (l.list.map (·.number)).Nodup) : l.Lands cfg n ↔ l.state = .ready ∧ n ∈ l.list.map (·.number)
      ∧ (l.list.head?.map (·.state) = some .changing → (l.list.map (·.held)).sum + 1 ≤ cfg.holdLimit) := by
  refine and_congr_right fun _ => and_congr_right fun hn => ?_
  rw [StackLane.land_heldTotal distinct hn, ← StackLane.changing_iff]
  change ¬(_ ∧ cfg.holdLimit < (l.list.map (·.held)).sum + _) ↔ _
  by_cases changing : l.changing = true
  · simp [changing]
  · simp [changing]

theorem LaneCounters.of_uninformed {c c' : LaneCounters} (h : c'.uninformed = c.uninformed) :
    c'.rejected = c.rejected ∧ c'.wasted = c.wasted ∧ c'.gap = c.gap ∧ c'.diverted = c.diverted
      ∧ c'.lateGate = c.lateGate ∧ c'.stacked = c.stacked ∧ c'.lost = c.lost :=
  ⟨(congrArg (·.rejected) h :), (congrArg (·.wasted) h :), (congrArg (·.gap) h :), (congrArg (·.diverted) h :),
    (congrArg (·.lateGate) h :), (congrArg (·.stacked) h :), (congrArg (·.lost) h :)⟩

theorem LaneCounters.of_uninformed_bump {c c' : LaneCounters} {which : LaneCounter} (hw : which ≠ .lateInfo)
    (h : c'.uninformed = c.uninformed.bump which) :
    c'.rejected = (c.bump which).rejected ∧ c'.wasted = (c.bump which).wasted ∧ c'.gap = (c.bump which).gap
      ∧ c'.diverted = (c.bump which).diverted ∧ c'.lateGate = (c.bump which).lateGate
      ∧ c'.stacked = (c.bump which).stacked ∧ c'.lost = (c.bump which).lost :=
  LaneCounters.of_uninformed (h.trans (LaneCounters.uninformed_bump hw c).symm)

/-- The late-gate list of lane k, set. -/
def State.leftGates (s : State) (k : Fin 8) (ranges : List SerialRange) : State :=
  { s with disp := { s.disp with lateGates := s.disp.lateGates.set k.val ranges } }

theorem State.onLateGates_eq (s : State) (k : Fin 8) (f : List SerialRange → List SerialRange) :
    s.onLateGates k f = s.leftGates k (f s.disp.lateGates[k.val]) :=
  rfl

/-- R114: a late-gate charge by what stands behind the ranges that have ended. -/
theorem State.lateGateCharge_split {s : State} {k : Fin 8} {gone rest : List SerialRange} (r : Record)
    (hl : s.disp.lateGates[k.val] = gone ++ rest) (before : ∀ x ∈ gone, behind x.last r.serial = true)
    (stands : ∀ x ∈ rest.head?, behind x.last r.serial = false) : s.lateGateCharge r k
      = if headHolds r.serial rest then
          ((s.leftGates k rest).lateInformation r k .lateGate).leftGates k (closeRange r.serial rest)
        else s.leftGates k rest := by
  have told : ((s.leftGates k rest).lateInformation r k .lateGate).disp.lateGates[k.val] = rest := by
    rw [State.lateInformation_eq]
    exact Vector.getElem_set_self _
  rw [s.lateGateCharge_eq, s.onLateGates_eq, hl, pruneRanges_split before stands, State.onLateGates_eq, told]

/-- Settles O41: the landings by the lane that the label finds, the counters of a lane by the two folds over the lanes
in use, in which each lane is taken once. -/
theorem arrivalCountsEveryStackLabel : Obligations.ArrivalCountsEveryStackLabel := by
  refine ⟨fun s r rest hs => ?_, fun s r k => ⟨s.arriveLane_other k, fun n stacked hn => ?_⟩, fun s k n => ?_,
    fun s r k gone rest hl before stands => ?_⟩
  · have hq : s.track.queue ≠ [] := by rw [hs]; exact List.cons_ne_nil _ _
    have arrival := State.arrive_eq (r := r) hq
    have frame := State.arrived_frame (r := r) hq
    obtain ⟨-, track, reg, cut, link, knife, gate⟩ := State.arrive_kept (r := r) hq
    rw [hs, List.tail_cons] at arrival track
    have gone : (s.arrived r).retired
        = { s.arrived r with track := { (s.arrived r).track with queue := rest } } := by
      unfold State.retired
      rw [frame.track, hs]
      rfl
    intro lanes landed retired t
    refine ⟨fun stays => ?_, fun ending empty => ?_, track, reg, cut, link, knife, gate, fun k => ?_⟩
    · refine arrival.trans ((if_neg ?_).trans gone)
      exact fun ends => stays.elim (· ends.1) (· ends.2)
    · exact arrival.trans ((if_pos ⟨ending, empty⟩).trans (congrArg _ gone))
    · intro c c' l
      obtain ⟨counts, others⟩ := State.arrive_counters (r := r) hq k
      by_cases used : k.val < s.job.job.lanes ∧ r.lanes[k.val].outcome = some .stack
      · have counted := counts used.1 used.2
        by_cases lands : l.Lands (s.cfg k) (r.lanes[k.val].stackRef.getD 0)
        · rw [StackLane.landingCounter_of_lands lands] at counted
          obtain ⟨rejected, wasted, gap, diverted, lateGate, stacked, lost⟩ :=
            LaneCounters.of_uninformed_bump (by decide) counted
          refine ⟨rejected, wasted, gap, diverted, lateGate, fun _ _ => .inl ⟨stacked, lost⟩,
            fun n _ _ hn distinct => ⟨fun _ => ⟨stacked, lost⟩, fun fails => ?_⟩,
            fun other => absurd used fun u => other.elim (by omega) (· u.2)⟩
          obtain ⟨ready, stands, fits⟩ := (StackLane.lands_of_distinct distinct).1 lands
          rw [hn] at stands
          rcases fails with fault | absent | ⟨changing, overruns⟩
          · exact absurd (ready.symm.trans fault) (by decide)
          · exact absurd stands absent
          · exact absurd (fits changing) (by omega)
        · rw [StackLane.landingCounter_of_not_lands lands] at counted
          obtain ⟨rejected, wasted, gap, diverted, lateGate, stacked, lost⟩ :=
            LaneCounters.of_uninformed_bump (by decide) counted
          refine ⟨rejected, wasted, gap, diverted, lateGate, fun _ _ => .inr ⟨stacked, lost⟩,
            fun n _ _ hn distinct => ⟨fun fits => absurd ((StackLane.lands_of_distinct distinct).2 fits) ?_,
              fun _ => ⟨stacked, lost⟩⟩,
            fun other => absurd used fun u => other.elim (by omega) (· u.2)⟩
          rwa [hn] at lands
      · have unused : s.job.job.lanes ≤ k.val ∨ r.lanes[k.val].outcome ≠ some .stack := by
          rw [not_and_or, Nat.not_lt] at used
          exact used
        obtain ⟨rejected, wasted, gap, diverted, lateGate, stacked, lost⟩ := LaneCounters.of_uninformed (others unused)
        exact ⟨rejected, wasted, gap, diverted, lateGate, fun hk stack => absurd ⟨hk, stack⟩ used,
          fun _ hk stack => absurd ⟨hk, stack⟩ used, fun _ => ⟨stacked, lost⟩⟩
  · rw [s.arriveLane_stack k stacked, hn]
    rfl
  · intro l
    refine ⟨s.landLabel_of_fault k n, fun absent => s.landLabel_of_absent k n ?_,
      fun older younger x ready hl hx others => ?_⟩
    · rw [List.mem_map]
      rintro ⟨x, hx, hn⟩
      exact absent x hx hn
    · intro changing list u overrun
      have stands : n ∈ (s.lane k).list.map (·.number) := by
        rw [show (s.lane k).list = older ++ x :: younger from hl]
        exact List.mem_map.2 ⟨x, by simp, hx⟩
      have changing_eq : (s.lane k).changing = changing := StackLane.changing_eq _
      have landed : (s.lane k).land n = { s.lane k with list } :=
        congrArg (fun list => ({ s.lane k with list } : StackLane))
          ((StackLane.land_split hl hx others).trans (by rw [changing_eq]))
      have landed_state : s.onLane k (·.land n) = u := by
        show s.onLane k (·.land n) = { s with stk := { s.stk with lanes := s.stk.lanes.set k.val { s.lane k with list } } }
        rw [← landed]
        rfl
      have test : ((s.lane k).changing = true ∧ (s.cfg k).holdLimit < ((s.lane k).land n).heldTotal)
          ↔ overrun = true := by
        rw [changing_eq, landed, Bool.and_eq_true, decide_eq_true_iff]
        rfl
      rw [s.landLabel_of_present k n ready stands, landed_state]
      exact ⟨fun on => if_pos (test.2 on), fun off => if_neg fun h => Bool.false_ne_true (off.symm.trans (test.1 h))⟩
  · intro left
    have charge := s.lateGateCharge_split r hl before stands
    refine ⟨fun none => ?_, fun x more hx => ⟨fun outside => ?_, fun inside => ?_⟩⟩
    · rw [charge, none]
      rfl
    all_goals
      rw [hx] at charge
      refine charge.trans ?_
    · rw [if_neg (by simpa [headHolds, serialInRange] using outside), hx]
      rfl
    · rw [if_pos (by simpa [headHolds, serialInRange] using inside), hx]
      rfl

end Sys2Proof.Machine
end

section
/-! Moves: what a command is made of. A command is a path of moves; each has a kind, which says what it may change,
and an invariant of the machine is kept by every command once every move keeps it. -/

namespace Sys2Proof.Machine

/-! ## Kinds -/

/-- What a move may change besides what every move may: the marks, queues, stacks, counters and notices. -/
inductive Kind
  | plain
  /-- The link port but for the node address, and the device counters. -/
  | link
  /-- A record joins the queue. -/
  | create
  /-- RUN or ENDING to HOLD. -/
  | hold
  /-- ENDING to ARMED. -/
  | finish
  /-- P. -/
  | position
  /-- The integral and the target. -/
  | loop
  | arm | start | resume | clear
  /-- RUN to ENDING. -/
  | ends
  /-- An accepted WRITE of the table of this identifier. -/
  | table (i : Fin 9)
  /-- The counters of a lane set to 0. -/
  | lanes
  | reset
deriving DecidableEq

/-- The records that a move of this kind creates. -/
def Kind.records : Kind → Nat
  | .create => 1
  | _ => 0

/-! ## Moves -/

/-- The state without the registration states and flags, and the counters, that bound nothing. -/
def State.untallied (s : State) : State := { s with
  reg := { s.reg with state := .free, lastOrigin := none, missing := 0, pitchLow := false, pitchHigh := false,
                      design := 0, cyclePending := false, firstRecord := false, seekSkip := 0#32, stray := 0#32,
                      designSlip := 0#32 }
  cut := { s.cut with strayMeas := 0#32, lateCut := 0#32 }
  stk := { s.stk with strayReady := 0#32 } }

/-- R87, R89: the applied correction and the ramp after the build of a knife command. -/
def State.stepped (s : State) : State :=
  { s with cut := { s.cut with applied := s.steppedCorrection, ramp := s.grownRamp } }

/-- R61: the closing of every lane at the end of a job, before the report. -/
def State.closedLanes (s : State) : State :=
  allLanes.foldl (fun s k => s.closeLaneAtEnd k) s

/-- R135: lane k faulted, before its notice and the report. -/
def State.faultedLane (k : Fin 8) (cause : FaultCause) (s : State) : State := { s with
  stk := { s.stk with lanes := s.stk.lanes.set k.val ((s.lane k).faulted cause) }
  sched := { s.sched with stack := s.sched.stack.filter (·.lane != k) } }

/-- R24, R38, R85, R160: START, before its notices. -/
def State.started (s : State) : State := { s with
  job := { s.job with state := .run, cause := .none }
  reg := { s.reg with state := .free, lastAnchor := s.track.pos, lastOrigin := none, missing := 0, samples := [],
                      cyclePending := false, firstRecord := true }
  cut := { s.cut with integral := 0, target := 0, applied := 0, ramp := rampStart s.job.loop.maxStep } }

/-- R25, R85, R167: RESUME, before its notices. -/
def State.resumed (s : State) : State := { s with
  job := { s.job with state := .run, cause := .none }
  reg := { s.reg with state := .free, lastAnchor := s.track.pos, lastOrigin := none, missing := 0, samples := [],
                      cyclePending := false }
  cut := { s.cut with ramp := rampStart s.job.loop.maxStep } }

/-- R25, R63, R65, R114, R140, R168: CLEAR, before its notices. -/
def State.cleared (s : State) : State := { s.discardQueue with
  job := { s.job with state := .config, cause := .none }
  reg := { s.reg with state := .free, lastAnchor := 0#32, lastOrigin := none, missing := 0, samples := [],
                      cyclePending := false, firstRecord := false }
  stk := s.clearStacks.stk
  sched := s.clearStacks.sched }

/-- R59, R161: END of a RUN, before its notice and what follows for an empty queue. -/
def State.ended (s : State) : State :=
  s.closeTail.onJob fun j => { j with state := .ending, cause := .none }

/-- One move of this kind. -/
inductive Move : Kind → State → State → Prop
  | touch {s t : State} (touch : Touch false s t) : Move .plain s t
  | tally {s t : State} (same : t.untallied = s.untallied) : Move .plain s t
  | knife {s : State} (left : List KnifeItem) (fewer : left.Sublist s.sched.knife) :
      Move .plain s { s with sched := { s.sched with knife := left } }
  | step {s : State} : Move .plain s s.stepped
  | build {s : State} (x : KnifeItem) (runs : s.running = true) (room : s.sched.knife.length < 8) :
      Move .plain s { s with sched := { s.sched with knife := s.sched.knife ++ [x] } }
  | commit {s : State} (r : Record) (older younger : List Record) (cutLine labelEnd : Word) (runs : s.running = true)
      (split : s.track.queue = older ++ r :: younger) (first : ∀ x ∈ older, x.commit = .committed)
      (open_ : r.commit = .uncommitted) (ends : r.tail = true ∨ younger ≠ []) (room : s.gateRoom r.serial = true) :
      Move .plain s (s.commit r cutLine labelEnd)
  | retire {s : State} (r : Record) (younger : List Record) (runs : s.running = true)
      (split : s.track.queue = r :: younger) (done : r.commit = .committed) : Move .plain s (s.arrived r).retired
  | close {s : State} (ending : s.job.state = .ending) (empty : s.track.queue = []) : Move .plain s s.closedLanes
  | fault {s : State} (k : Fin 8) (cause : FaultCause) (named : cause ≠ .none) : Move .plain s (s.faultedLane k cause)
  | change {s : State} (k : Fin 8) (n : Nat) (named : (s.lane k).awaits n = true) :
      Move .plain s ((s.onLane k StackLane.released).requestChange k)
  | short {s : State} (k : Fin 8) (gap : Nat) (assigning : (s.lane k).list.any (·.state == .assigning) = true) :
      Move .plain s ((s.onLane k fun l => { l with list := l.list.map StackRec.closeShort, gap }).requestChange k)
  | enable {s : State} (k : Fin 8) (faulted : (s.lane k).state = .fault) :
      Move .plain s (s.onLane k fun l => { l with state := .ready, cause := .none })
  | gate {s : State} (x : GateItem) (rest : List GateItem) (head : s.sched.gate = x :: rest) :
      Move .plain s { s with sched := { s.sched with gate := rest } }
  | gateLate {s : State} (x : GateItem) (rest : List GateItem) (head : s.sched.gate = x :: rest) :
      Move .plain s (({ s with sched := { s.sched with gate := rest } } : State).reportLateGate x)
  | stack {s : State} (x : StackItem) (rest : List StackItem) (head : s.sched.stack = x :: rest) :
      Move .plain s (({ s with sched := { s.sched with stack := rest } } : State).onLane x.lane fun l =>
        { l with list := changeFirst x.number l.list, timer := some { count := 0, timeout := (s.cfg x.lane).timeout } })
  | notice {s : State} (rest : List Notice) (fewer : rest.Sublist s.sched.notices) (dropped : Word) :
      Move .plain s { s with sched := { s.sched with notices := rest, noticesDropped := dropped } }
  | credits {s : State} : Move .plain s { s with sched := s.sched.choose.2 }
  | frame {s : State} : Move .plain s s.countFrame
  | ramp {s : State} : Move .plain s s.restartRamp
  | link {s : State} (port : LinkPort) (node : port.node = s.link.node) : Move .link s { s with link := port }
  | held {s : State} (posHeld : Word) : Move .link s { s with track := { s.track with posHeld } }
  | create {s : State} (anchor : Word) (origin : Origin) (cls : RegState) (emptied : Bool) (run : s.job.state = .run)
      (room : s.track.queue.length < 256) (rises : s.AnchorsRise → beyond anchor s.reg.lastAnchor = true) :
      Move .create s ((if emptied then s.clearRing else s).createRecord anchor origin cls)
  | hold {s : State} (cause : HoldCause) (runs : s.running = true) (named : cause ≠ .none) :
      Move .hold s (s.enterHold cause)
  | finish {s : State} (ending : s.job.state = .ending) (empty : s.track.queue = []) :
      Move .finish s (s.onJob fun j => { j with state := .armed, cause := .none })
  | position {s : State} (p : Word) : Move .position s (s.setPos p)
  | correct {s : State} (e : Int) : Move .loop s (s.onCut (·.correct s.job.loop e))
  | arm {s : State} (config : s.job.state = .config) (passes : s.job.armFailure = none) :
      Move .arm s (s.onJob fun j => { j with validated := j.loop.limit, state := .armed, cause := .none })
  | start {s : State} (armed : s.job.state = .armed) : Move .start s s.started
  | resume {s : State} (held : s.job.state = .hold) : Move .resume s s.resumed
  | clear {s : State} (idle : s.job.state = .armed ∨ s.job.state = .hold) : Move .clear s s.cleared
  | ends {s : State} (run : s.job.state = .run) : Move .ends s s.ended
  | job {s : State} (x : JobRec) (config : s.job.state = .config) :
      Move (.table 1) s (s.onJob fun j => { j with job := x })
  | station {s : State} (x : StationRec) (config : s.job.state = .config) :
      Move (.table 2) s (s.onJob fun j => { j with station := x })
  | loop {s : State} (x : LoopRec) (ranged : 1 ≤ x.maxStep) : Move (.table 3) s ((s.onJob fun j => { j with loop := x }).onCut (·.clampTo x))
  | sensor {s : State} (edges : Vector Edge 2) (config : s.job.state = .config) :
      Move (.table 4) s { s with reg := { s.reg with edges } }
  | lane {s : State} (cfg : Vector LaneCfg 8) (ranged : (∀ k : Fin 8, 1 ≤ (s.cfg k).target) → ∀ k : Fin 8, 1 ≤ cfg[k.val].target) :
      Move (.table 5) s { s with stk := { s.stk with cfg } }
  | disp {s : State} (disp : Vector DispEntry 128) (idle : s.job.state = .config ∨ s.job.state = .armed) :
      Move (.table 6) s { s with disp := { s.disp with disp } }
  | override {s : State} (overrides : Vector OverrideEntry 32) :
      Move (.table 7) s { s with disp := { s.disp with overrides } }
  | sched {s : State} (table : Vector SchedEntry 3)
      (ranged : (∀ e ∈ s.sched.table.toList, 1 ≤ e.weight ∧ e.weight ≤ 15) →
        ∀ e ∈ table.toList, 1 ≤ e.weight ∧ e.weight ≤ 15) :
      Move (.table 8) s (s.onSched fun q => Scheduler.reload { q with table })
  | lanes {s : State} (k : Fin 8) : Move .lanes s (s.clearLaneCounters k)
  | soft {s : State} : Move .reset s s.soften
  | power {s : State} (straps : BitVec 6) : Move .reset s { State.powerOn straps with pending := s.pending }

/-- Moves of these kinds, one after another, that create n records. -/
inductive Path (ks : List Kind) (s : State) : Nat → State → Prop
  | done : Path ks s 0 s
  | next {κ : Kind} {n : Nat} {t u : State} (path : Path ks s n t) (allowed : κ ∈ ks) (move : Move κ t u) :
      Path ks s (n + κ.records) u

section path
variable {ks ks' : List Kind} {m n : Nat} {s t u : State}

theorem Path.mono (sub : ks ⊆ ks') (h : Path ks s n t) : Path ks' s n t := by
  induction h with
  | done => exact .done
  | next _ allowed move ih => exact ih.next (sub allowed) move

theorem Path.trans (h : Path ks s m t) (h' : Path ks t n u) : Path ks s (m + n) u := by
  induction h' with
  | done => exact h
  | next _ allowed move ih =>
    rw [← Nat.add_assoc]
    exact ih.next allowed move

theorem Path.move {κ : Kind} (allowed : κ ∈ ks) (move : Move κ s t) : Path ks s κ.records t := by
  simpa using Path.done.next allowed move

theorem Path.plain (allowed : Kind.plain ∈ ks) (move : Move .plain s t) : Path ks s 0 t :=
  Path.move allowed move

theorem Path.of_eq (h : t = s) : Path ks s 0 t := by
  rw [h]
  exact .done

/-- A property that every move of these kinds keeps is kept along a path of them. -/
theorem Path.keeps {P : State → Prop} (step : ∀ κ ∈ ks, ∀ s t, Move κ s t → P s → P t) (h : Path ks s n t)
    (hs : P s) : P t := by
  induction h with
  | done => exact hs
  | next _ allowed move ih => exact step _ allowed _ _ move ih

end path

end Sys2Proof.Machine
end

section
/-! The operations of the units as paths of moves. -/

namespace Sys2Proof.Machine

/-! ## Positions that rise -/

theorem beyond_of_distance {a b : Word} (apart : 0 < (a - b).toNat) (near : (a - b).toNat < 2147483648) :
    beyond a b = true := by
  refine (beyond_iff a b).2 ⟨decide_eq_true near, fun same => ?_⟩
  rw [same] at apart
  simp at apart

theorem beyond_shift (a : Word) {d : Int} (apart : 0 < d) (near : d < 2147483648) : beyond (shift a d) a = true := by
  have distance : (shift a d - a).toNat = d.toNat := by
    rw [BitVec.toNat_sub]
    have := shift_toNat a d
    have := a.isLt
    omega
  exact beyond_of_distance (by omega) (by omega)

theorem beyond_of_fromThrough {x a : Word} {lo hi : Int} (h : fromThrough x (shift a lo) (shift a hi) = true)
    (apart : 0 < lo) (order : lo ≤ hi) (near : hi < 1073741824) : beyond x a = true := by
  obtain ⟨above, below⟩ := (fromThrough_iff _ _ _).1 h
  have above := of_decide_eq_true above
  have below := of_decide_eq_true below
  rw [BitVec.toNat_sub] at above below
  have lo_nat := shift_toNat a lo
  have hi_nat := shift_toNat a hi
  have := x.isLt
  have := a.isLt
  refine beyond_of_distance ?_ ?_
  all_goals
    rw [BitVec.toNat_sub]
    omega

/-- R32: the estimate in force lies within the window around the repeat length. -/
theorem State.AnchorsRise.estimate {s : State} (h : s.AnchorsRise) (run : s.job.state = .run) :
    s.job.job.Spaced ∧ (s.job.job.pitch : Int) - s.job.job.window ≤ s.pitchEstimate
      ∧ s.pitchEstimate ≤ (s.job.job.pitch : Int) + s.job.job.window := by
  obtain ⟨-, spaced, -, clamped, -, -⟩ := h
  refine ⟨spaced (by rw [run]; decide), ?_⟩
  rcases Nat.lt_or_ge s.reg.samples.length (2 ^ s.job.job.depth) with few | enough
  · rw [s.pitchEstimate_few few]
    omega
  · rw [s.pitchEstimate_enough enough]
    exact clamped enough

/-! ## Touches, counts and answers -/

section plain
variable {ks : List Kind} (plain : Kind.plain ∈ ks) (s : State)
include plain

theorem Path.touches {s t : State} (h : Touches false s t) : Path ks s 0 t := by
  induction h with
  | refl => exact .done
  | tail _ touch ih => exact ih.next plain (.touch touch)

theorem Path.notify (kind : NoticeKind) (lane : Option (Fin 8)) (value : Word) :
    Path ks s 0 (s.notify kind lane value) :=
  .plain plain (.touch (.notice false s kind lane value))

theorem Path.marks (n : Word) (f : Record → Record) (keeps : ∀ x, (f x).unmarked = x.unmarked) :
    Path ks s 0 (s.onRecord n f) :=
  .plain plain (.touch (.marks false s n f keeps))

theorem Path.tally {s t : State} (same : t.untallied = s.untallied) : Path ks s 0 t :=
  .plain plain (.tally same)

theorem Path.setRegState (state : RegState) : Path ks s 0 (s.setRegState state) := by
  unfold State.setRegState
  split
  · exact .done
  · have set : Path ks s 0 (s.onReg fun r => { r with state }) := .tally plain rfl
    exact set.trans (.notify plain _ _ _ _)

theorem Path.lateCutEffects (serial : Word) : Path ks s 0 (s.lateCutEffects serial) := by
  obtain ⟨u, touches, effects⟩ := s.lateCutEffects_touches serial
  have counted : Path ks u 0 (u.onCut fun c => { c with lateCut := satInc c.lateCut }) := .tally plain rfl
  rw [effects]
  exact ((Path.touches plain touches).trans counted).trans (.notify plain _ _ _ _)

/-! ## The knife sweep -/

theorem Path.cutTransition (runs : s.running = true) (r : Record) : Path ks s 0 (s.cutTransition r) := by
  unfold State.cutTransition
  split
  · exact .done
  · split
    · exact (Path.marks plain s r.serial (fun x =>
        { x with cut := .late, check := .noCheck, cutLine := some (s.cutLineAt r s.cut.applied) }) fun _ => rfl).trans
        (.lateCutEffects plain _ _)
    · split
      · next due =>
        have stepped : Path ks s 0 s.stepped := .plain plain .step
        have marked := stepped.trans (.marks plain s.stepped r.serial (fun x =>
          { x with cut := .queued, cutLine := some (s.cutLineAt r s.steppedCorrection) }) fun _ => rfl)
        exact marked.next plain
          (.build ⟨r.serial, shift (s.cutLineAt r s.steppedCorrection) s.job.station.dK⟩ runs due.2)
      · exact .done

theorem Path.lateQueued (serial : Word) : Path ks s 0 (s.lateQueued serial) := by
  have removed : Path ks s 0 (s.onSched fun q => { q with knife := q.knife.filter (·.serial != serial) }) :=
    .plain plain (.knife _ List.filter_sublist)
  exact (removed.trans (.marks plain _ serial (fun x => { x with cut := .late, check := .noCheck }) fun _ => rfl)).trans
    (.lateCutEffects plain _ _)

theorem Path.lateTransition (r : Record) : Path ks s 0 (s.lateTransition r) := by
  unfold State.lateTransition
  split
  · split
    · exact .lateQueued plain s _
    · exact .done
  · exact .done

theorem Path.expiryTransition (r : Record) : Path ks s 0 (s.expiryTransition r) := by
  unfold State.expiryTransition
  split
  · split
    · exact .marks plain s _ _ fun _ => rfl
    · exact .done
  · exact .done

omit plain in
theorem Path.withRecord (serial : Word) {f : Record → State → State} (step : ∀ r, Path ks s 0 (f r s)) :
    Path ks s 0 (s.withRecord serial f) := by
  unfold State.withRecord
  split
  · exact step _
  · exact .done

theorem Path.knifeStep (runs : s.running = true) (serial : Word) : Path ks s 0 (s.knifeStep serial) :=
  ((Path.withRecord s serial fun r => .cutTransition plain s runs r).trans
    (.withRecord _ serial fun r => .lateTransition plain _ r)).trans
    (.withRecord _ serial fun r => .expiryTransition plain _ r)

end plain

end Sys2Proof.Machine
end

section
/-! What each kind of move may change of the tables, the positions, the next serial and the job. -/

namespace Sys2Proof.Machine

/-- The link port, the tables, the job, the positions, the next serial, the loop's integral and target, and the
waiting commands. -/
structure Settings where
  link : LinkPort
  job : JobControl
  edges : Vector Edge 2
  cfg : Vector LaneCfg 8
  disp : Vector DispEntry 128
  overrides : Vector OverrideEntry 32
  table : Vector SchedEntry 3
  pos : Word
  posHeld : Word
  nextSerial : Word
  integral : Int
  target : Int
  pending : List Instr

def State.settings (s : State) : Settings where
  link := s.link
  job := s.job
  edges := s.reg.edges
  cfg := s.stk.cfg
  disp := s.disp.disp
  overrides := s.disp.overrides
  table := s.sched.table
  pos := s.track.pos
  posHeld := s.track.posHeld
  nextSerial := s.track.nextSerial
  integral := s.cut.integral
  target := s.cut.target
  pending := s.pending

/-- What a move of this kind makes of the settings. -/
def Kind.Allows : Kind → Settings → Settings → Prop
  | .plain, a, b => b = a
  | .lanes, a, b => b = a
  | .link, a, b => b = { a with link := b.link, posHeld := b.posHeld } ∧ b.link.node = a.link.node
  | .create, a, b => b = { a with nextSerial := a.nextSerial + 1#32 }
  | .hold, a, b => (a.job.state = .run ∨ a.job.state = .ending)
      ∧ b = { a with job := { a.job with state := .hold, cause := b.job.cause } }
  | .finish, a, b => a.job.state = .ending ∧ b = { a with job := { a.job with state := .armed, cause := .none } }
  | .position, a, b => b = { a with pos := b.pos }
  | .loop, a, b => b = { a with integral := b.integral, target := b.target }
  | .arm, a, b => a.job.state = .config
      ∧ b = { a with job := { a.job with state := .armed, cause := .none, validated := a.job.loop.limit } }
  | .start, a, b => a.job.state = .armed
      ∧ b = { a with job := { a.job with state := .run, cause := .none }, integral := 0, target := 0 }
  | .resume, a, b => a.job.state = .hold ∧ b = { a with job := { a.job with state := .run, cause := .none } }
  | .clear, a, b => (a.job.state = .armed ∨ a.job.state = .hold)
      ∧ b = { a with job := { a.job with state := .config, cause := .none } }
  | .ends, a, b => a.job.state = .run ∧ b = { a with job := { a.job with state := .ending, cause := .none } }
  | .table i, a, b =>
      (i = 1 ∧ a.job.state = .config ∧ b = { a with job := { a.job with job := b.job.job } })
      ∨ (i = 2 ∧ a.job.state = .config ∧ b = { a with job := { a.job with station := b.job.station } })
      ∨ (i = 3 ∧ b = { a with job := { a.job with loop := b.job.loop }, integral := b.integral, target := b.target })
      ∨ (i = 4 ∧ a.job.state = .config ∧ b = { a with edges := b.edges })
      ∨ (i = 5 ∧ b = { a with cfg := b.cfg })
      ∨ (i = 6 ∧ (a.job.state = .config ∨ a.job.state = .armed) ∧ b = { a with disp := b.disp })
      ∨ (i = 7 ∧ b = { a with overrides := b.overrides })
      ∨ (i = 8 ∧ b = { a with table := b.table })
  | .reset, a, b => b.pending = a.pending

section operations
variable {s t : State}

theorem Touches.settings {b : Bool} (h : Touches b s t) : t.settings = s.settings := by
  have same := h.untouched
  exact (congrArg State.settings same :)

theorem State.settings_of_untallied (h : t.untallied = s.untallied) : t.settings = s.settings :=
  (congrArg State.settings h :)

theorem CommitFrame.settings {r : Record} {ks : List (Fin 8)} (h : CommitFrame r ks s t) : t.settings = s.settings :=
  (congrArg State.settings h.rest :)

theorem ArriveFrame.settings {ks : List (Fin 8)} (h : ArriveFrame ks s t) : t.settings = s.settings :=
  (congrArg State.settings h.rest :)

theorem State.requestChange_settings (s : State) (k : Fin 8) : (s.requestChange k).settings = s.settings := by
  rw [State.requestChange_eq]
  rfl

theorem State.closedLanes_eq (s : State) : s.closedLanes = { s with
    stk := { s.stk with lanes := Vector.ofFn fun k : Fin 8 =>
      { (s.lane k).closedAtEnd with list := changeAsked (s.lane k).closedAtEnd.list } }
    sched := { s.sched with
      stack := s.sched.stack ++ allLanes.flatMap fun k => changeItems k (s.lane k).closedAtEnd.list } } :=
  State.foldl_allLanes_requestChange StackLane.closedAtEnd s

theorem State.createRecord_settings (s : State) (anchor : Word) (origin : Origin) (cls : RegState) :
    (s.createRecord anchor origin cls).settings
      = { s.settings with nextSerial := s.track.nextSerial + 1#32 } := by
  obtain ⟨track, disp, stk, link, cut, job, pending, sched⟩ := s.createRecord_kept anchor origin cls
  have touches := s.withNext_touches anchor origin cls
  have reg := congrArg Registration.edges (s.createRecord_reg anchor origin cls)
  have table : (s.createRecord anchor origin cls).sched.table = s.sched.table := (congrArg Scheduler.table sched :)
  have joined := touches.settings
  rw [State.countSlip_eq] at joined
  unfold State.settings at joined ⊢
  simp only [track, disp, stk, link, cut, job, pending, table]
  simp only [Settings.mk.injEq] at joined ⊢
  obtain ⟨-, -, -, cfg, disp', overrides, -, pos, posHeld, serial, -, -, -⟩ := joined
  exact ⟨trivial, trivial, reg, cfg, disp', overrides, trivial, pos, posHeld, serial, trivial, trivial, trivial⟩

theorem State.enterHold_settings (s : State) (cause : HoldCause) (hr : s.running = true) :
    (s.enterHold cause).settings = { s.settings with job := { s.job with state := .hold, cause } } := by
  obtain ⟨-, -, -, table, -⟩ := s.sched.notify_frame .jobState none (jobNoticeValue .hold cause)
  rw [State.enterHold_eq s cause hr]
  exact (congrArg (fun table => { s.settings with table, job := { s.job with state := .hold, cause } }) table :)

theorem State.closeTail_settings (s : State) : s.closeTail.settings = s.settings := by
  unfold State.closeTail
  split
  · rfl
  · exact (State.closeRecord_touches _ _ _).settings

end operations

/-- Every move changes no more of the settings than its kind says. -/
theorem Move.allows {κ : Kind} {s t : State} (h : Move κ s t) : κ.Allows s.settings t.settings := by
  cases h with
  | touch touch => exact Touches.settings (.single touch)
  | tally same => exact State.settings_of_untallied same
  | commit r _ _ cutLine labelEnd _ _ _ _ _ room =>
    rw [State.commit_passes room]
    exact (s.commitLanes_frame r cutLine labelEnd s.lanesInUse s.lanesInUse_nodup).settings
  | retire r _ _ split _ => exact (State.arrived_frame (by rw [split]; exact List.cons_ne_nil _ _)).settings
  | close _ _ =>
    rw [State.closedLanes_eq]
    exact rfl
  | change k _ _ => exact State.requestChange_settings _ k
  | short k _ _ => exact State.requestChange_settings _ k
  | credits =>
    obtain ⟨-, -, -, -, table, -⟩ := s.sched.choose_frame
    exact (congrArg (fun table => { s.settings with table }) table :)
  | create anchor origin cls emptied _ _ _ =>
    cases emptied with
    | false => exact s.createRecord_settings anchor origin cls
    | true => exact s.clearRing.createRecord_settings anchor origin cls
  | hold cause runs _ =>
    have held := s.enterHold_settings cause runs
    rw [held]
    exact ⟨s.running_iff.1 runs, rfl⟩
  | finish ending _ => exact ⟨ending, rfl⟩
  | arm config _ => exact ⟨config, rfl⟩
  | start armed => exact ⟨armed, rfl⟩
  | resume held => exact ⟨held, rfl⟩
  | clear idle =>
    refine ⟨idle, ?_⟩
    unfold State.cleared State.discardQueue
    rw [State.foldl_holdAccount]
    exact rfl
  | ends run =>
    exact ⟨run, (congrArg (fun a : Settings => { a with job := { a.job with state := .ending, cause := .none } }) s.closeTail_settings :)⟩
  | correct e =>
    show Settings.mk .. = Settings.mk ..
    rfl
  | job x config => exact .inl ⟨rfl, config, rfl⟩
  | station x config => exact .inr (.inl ⟨rfl, config, rfl⟩)
  | loop x _ => exact .inr (.inr (.inl ⟨rfl, rfl⟩))
  | sensor edges config => exact .inr (.inr (.inr (.inl ⟨rfl, config, rfl⟩)))
  | lane cfg _ => exact .inr (.inr (.inr (.inr (.inl ⟨rfl, rfl⟩))))
  | disp disp idle => exact .inr (.inr (.inr (.inr (.inr (.inl ⟨rfl, idle, rfl⟩)))))
  | override overrides => exact .inr (.inr (.inr (.inr (.inr (.inr (.inl ⟨rfl, rfl⟩))))))
  | sched table _ => exact .inr (.inr (.inr (.inr (.inr (.inr (.inr ⟨rfl, rfl⟩))))))
  | link port node => exact ⟨rfl, node⟩
  | held posHeld => exact ⟨rfl, rfl⟩
  | soft => exact rfl
  | power straps => exact rfl
  | _ => exact rfl

end Sys2Proof.Machine
end

section
/-! The advance, the marks, the offer and the requests as paths of moves. -/

namespace Sys2Proof.Machine

theorem Path.plain_settings {s t : State} {n : Nat} (h : Path [.plain] s n t) : t.settings = s.settings := by
  refine h.keeps (P := fun u => u.settings = s.settings) (fun κ hκ u v move hu => ?_) rfl
  rw [List.mem_singleton] at hκ
  subst hκ
  exact move.allows.trans hu

theorem Path.plain_running {s t : State} {n : Nat} (h : Path [.plain] s n t) : t.running = s.running :=
  congrArg (fun a : Settings => a.job.state == .run || a.job.state == .ending) h.plain_settings

/-! ## The sweeps -/

section sweeps
variable (s : State)

theorem Path.knifeSteps (serials : List Word) (runs : s.running = true) :
    Path [.plain] s 0 (serials.foldl State.knifeStep s) := by
  induction serials generalizing s with
  | nil => exact .done
  | cons n ns ih =>
    have first : Path [.plain] s 0 (s.knifeStep n) := .knifeStep (by decide) s runs n
    exact first.trans (ih _ (first.plain_running.trans runs))

theorem State.fromSerial_cons {serial : Word} {r : Record} {younger : List Record}
    (h : s.fromSerial serial = r :: younger) : s.track.queue = s.olderThan serial ++ r :: younger := by
  rw [← h, State.olderThan, State.fromSerial, List.takeWhile_append_dropWhile]

theorem State.labelEnd_ends {r : Record} {younger : List Record} {stop : Word}
    (h : s.labelEnd r younger.head? = some stop) : r.tail = true ∨ younger ≠ [] := by
  by_cases tail : r.tail = true
  · exact .inl tail
  · refine .inr fun none => ?_
    simp [State.labelEnd, tail, none] at h

theorem Path.commitStep (serial : Word) (runs : s.running = true) : Path [.plain] s 0 (s.commitStep serial) := by
  unfold State.commitStep
  split
  · exact .done
  · next r younger hr =>
    have split := s.fromSerial_cons hr
    split
    · next cutLine stop open_ hcut hstop =>
      split
      · next due =>
        cases room : s.gateRoom r.serial with
        | false =>
          rw [State.commit_held room]
          exact .done
        | true =>
          have first : ∀ x ∈ s.olderThan serial, x.commit = .committed := by
            simpa using due.1
          exact .plain (by decide) (.commit r _ younger cutLine stop runs split first open_ (s.labelEnd_ends hstop) room)
      · exact .done
    · exact .done

theorem Path.completeEnding : Path [.plain, .finish] s 0 s.completeEnding := by
  unfold State.completeEnding
  split
  · next ends =>
    have finished : Path [.plain, .finish] s 0 (s.onJob fun j => { j with state := .armed, cause := .none }) :=
      .move (by decide) (.finish ends.1 ends.2.1)
    exact finished.trans (.notify (by decide) _ _ _ _)
  · exact .done

theorem Path.endOfJobClosing (ending : s.job.state = .ending) (empty : s.track.queue = []) :
    Path [.plain, .finish] s 0 s.endOfJobClosing := by
  have closed : Path [.plain, .finish] s 0 s.closedLanes := .plain (by decide) (.close ending empty)
  exact closed.trans (.completeEnding _)

theorem Path.arrive {r : Record} {younger : List Record} (runs : s.running = true)
    (split : s.track.queue = r :: younger) (done : r.commit = .committed) : Path [.plain, .finish] s 0 (s.arrive r) := by
  have hq : s.track.queue ≠ [] := by rw [split]; exact List.cons_ne_nil _ _
  have frame := State.arrived_frame (r := r) hq
  have retired : Path [.plain, .finish] s 0 (s.arrived r).retired :=
    .plain (by decide) (.retire r younger runs split done)
  rw [State.arrive_eq hq]
  split
  · next ends =>
    refine retired.trans (.endOfJobClosing _ ?_ ?_)
    · exact (congrArg (·.job.state) frame.rest :).trans ends.1
    · exact (congrArg (·.queue.tail) frame.track).trans ends.2
  · exact retired

/-- R61: a sweep goes on in RUN and ENDING, and where the queue is empty there is nothing left for it to do. -/
def State.Sweepable (s : State) : Prop :=
  s.running = true ∨ s.track.queue = []

theorem Path.dispositionStep (serial : Word) (h : s.Sweepable) :
    Path [.plain, .finish] s 0 (s.dispositionStep serial) ∧ (s.dispositionStep serial).Sweepable := by
  rcases h with runs | empty
  · have committed := Path.commitStep s serial runs
    have runs' := committed.plain_running.trans runs
    have committed := committed.mono (ks' := [.plain, .finish]) (by decide)
    unfold State.dispositionStep
    unfold State.arrivalStep
    split
    · exact ⟨committed, .inl runs'⟩
    · next r younger hq =>
      split
      · next stop done _ =>
        split
        · refine ⟨committed.trans (.arrive _ runs' hq done), ?_⟩
          have ne : (s.commitStep serial).track.queue ≠ [] := by rw [hq]; exact List.cons_ne_nil _ _
          have job : ((s.commitStep serial).arrived r).job = (s.commitStep serial).job :=
            (congrArg (·.job) (State.arrived_frame ne).rest :)
          obtain ⟨-, track, -⟩ := State.arrive_kept (r := r) ne
          rw [State.Sweepable, track]
          rw [State.arrive_eq ne]
          split
          · next ends => exact .inr ends.2
          · refine .inl ?_
            rw [State.running_iff] at runs' ⊢
            show ((s.commitStep serial).arrived r).job.state = _ ∨ ((s.commitStep serial).arrived r).job.state = _
            rwa [job]
        · exact ⟨committed, .inl runs'⟩
      · exact ⟨committed, .inl runs'⟩
  · have same : s.dispositionStep serial = s := by
      have none : s.commitStep serial = s := by
        simp [State.commitStep, State.fromSerial, empty]
      rw [State.dispositionStep, none]
      simp [State.arrivalStep, empty]
    rw [same]
    exact ⟨.done, .inr empty⟩

theorem Path.dispositionSteps (serials : List Word) (h : s.Sweepable) :
    Path [.plain, .finish] s 0 (serials.foldl State.dispositionStep s) := by
  induction serials generalizing s with
  | nil => exact .done
  | cons n ns ih =>
    obtain ⟨first, kept⟩ := Path.dispositionStep s n h
    exact first.trans (ih _ kept)

theorem Path.sweeps (runs : s.running = true) : Path [.plain, .finish] s 0 s.sweeps := by
  have knives := Path.knifeSteps s (s.track.queue.map (·.serial)) runs
  exact (knives.mono (by decide)).trans (.dispositionSteps _ _ (.inl (knives.plain_running.trans runs)))

end sweeps

/-! ## Marks and predictions -/

section predictions
variable {s t : State}

theorem Path.withRoom {ks : List Kind} {f : State → State} {n : Nat} (hold : Kind.hold ∈ ks) (run : s.job.state = .run)
    (step : s.track.queue.length < 256 → Path ks s n (f s)) : ∃ m ≤ n, Path ks s m (s.withRoom f) := by
  rcases Nat.lt_or_ge s.track.queue.length 256 with room | full
  · rw [s.withRoom_room f room]
    exact ⟨n, le_rfl, step room⟩
  · rw [s.withRoom_full f full]
    exact ⟨0, n.zero_le, .move hold (.hold .queueFull (s.running_iff.2 (.inl run)) (by decide))⟩

theorem Path.predictFree (run : s.job.state = .run) :
    ∃ n ≤ 1, Path [.plain, .create, .hold] s n s.predictFree := by
  refine Path.withRoom (by decide) run fun room => .move (by decide) (.create _ .free .free false run room fun rise => ?_)
  obtain ⟨spaced, -⟩ := rise.estimate run
  exact beyond_shift _ (by omega) (by omega)

theorem State.AnchorsRise.expected_beyond (h : s.AnchorsRise) (run : s.job.state = .run) :
    beyond s.expected s.reg.lastAnchor = true := by
  obtain ⟨spaced, low, high⟩ := h.estimate run
  exact beyond_shift _ (by omega) (by omega)

theorem Path.clearMissing {ks : List Kind} (plain : Kind.plain ∈ ks) (s : State) : Path ks s 0 s.clearMissing :=
  .tally plain rfl

theorem Path.predictMark (run : s.job.state = .run) (cls : RegState) :
    ∃ n ≤ 1, Path [.plain, .create, .hold] s n (s.predictMark cls) := by
  refine Path.withRoom (by decide) run fun room => ?_
  split
  · have missed : Path [.plain, .create, .hold] s 0 (s.onReg fun r => { r with missing := r.missing + 1 }) :=
      .tally (by decide) rfl
    exact missed.trans (.move (by decide) (.create s.expected .predicted cls false run room
      fun rise => State.AnchorsRise.expected_beyond rise run))
  · have freed : Path [.plain, .create, .hold] s 0 (s.setRegState .free).clearMissing :=
      (Path.setRegState (by decide) s .free).trans (.clearMissing (by decide) _)
    have created : Move .create (s.setRegState .free).clearMissing
        ((s.setRegState .free).clearMissing.clearRing.createRecord s.expected .free .free) := by
      rw [State.setRegState_free]
      exact .create s.expected .free .free true run room fun rise => State.AnchorsRise.expected_beyond (s := s) rise run
    exact freed.next (by decide) created

theorem Path.predictOne (h : s.predictOne = some t) : ∃ n ≤ 1, Path [.plain, .create, .hold] s n t := by
  by_cases run : s.job.state = .run
  · by_cases hf : s.reg.state = .free
    · rw [State.predictOne_free run hf, Option.ite_none_right_eq_some] at h
      exact Option.some.inj h.2 ▸ Path.predictFree run
    · rw [State.predictOne_registered run hf, Option.ite_none_right_eq_some] at h
      exact Option.some.inj h.2 ▸ Path.predictMark run _
  · rw [State.predictOne_idle run] at h
    cases h

theorem Path.predictUpTo (fuel : Nat) (s : State) :
    ∃ n ≤ fuel, Path [.plain, .create, .hold] s n (s.predictUpTo fuel) := by
  induction fuel generalizing s with
  | zero => exact ⟨0, le_rfl, .done⟩
  | succ fuel ih =>
    rw [State.predictUpTo]
    split
    · next t ht =>
      obtain ⟨m, hm, first⟩ := Path.predictOne ht
      obtain ⟨n, hn, rest⟩ := ih t
      exact ⟨m + n, by omega, first.trans rest⟩
    · exact ⟨0, Nat.zero_le _, .done⟩

/-- R11: an advance sets P, predicts, and sweeps unless a hold has ended it. -/
theorem Path.advance (p : Word) (s : State) :
    ∃ n ≤ 257, Path [.plain, .position, .create, .hold, .finish] s n (s.advance p) := by
  obtain ⟨n, hn, predicted⟩ := Path.predictUpTo 257 (s.setPos p)
  have moved : Path [.plain, .position, .create, .hold, .finish] s 0 (s.setPos p) := .move (by decide) (.position p)
  have all := moved.trans (predicted.mono (by decide))
  rw [Nat.zero_add] at all
  refine ⟨n, hn, ?_⟩
  unfold State.advance State.predictAll
  dsimp only
  split
  · next runs => exact all.trans ((Path.sweeps _ runs).mono (by decide))
  · exact all

theorem Path.takeMark (run : s.job.state = .run) (captured : Word) :
    ∃ n ≤ 1, Path [.plain, .create, .hold] s n (s.takeMark captured) := by
  have skipped : ∀ f : Registration → Registration, (s.onReg f).untallied = s.untallied →
      ∃ n ≤ 1, Path [.plain, .create, .hold] s n (s.onReg f) :=
    fun f same => ⟨0, Nat.zero_le _, .tally (by decide) same⟩
  by_cases hf : s.reg.state = .free
  · rw [s.takeMark_free captured hf]
    split
    · next accepted =>
      have near : s.inSeekInterval captured = true := by simpa using (Bool.and_eq_true_iff.1 accepted).2
      refine Path.withRoom (by decide) run fun room => ?_
      have created : Path [.plain, .create, .hold] s 1 (s.createRecord captured .marked .free) :=
        .move (by decide) (.create captured .marked .free false run room fun rise => ?_)
      · exact (created.trans (.setRegState (by decide) _ .acquire)).trans (.clearMissing (by decide) _)
      · obtain ⟨spaced, -⟩ := rise.estimate run
        exact beyond_of_fromThrough near (by omega) (by omega) (by omega)
    · exact skipped _ rfl
  · rw [s.takeMark_registered captured hf]
    split
    · next accepted =>
      have near : s.inWindow captured = true := by simpa using (Bool.and_eq_true_iff.1 accepted).2
      refine Path.withRoom (by decide) run fun room => ?_
      have created : Path [.plain, .create, .hold] s 1 (s.createRecord captured .marked s.reg.state) :=
        .move (by decide) (.create captured .marked _ false run room fun rise => ?_)
      · exact created.trans (.clearMissing (by decide) _)
      · obtain ⟨spaced, low, high⟩ := rise.estimate run
        exact beyond_of_fromThrough near (by omega) (by omega) (by omega)
    · exact skipped _ rfl

end predictions

end Sys2Proof.Machine
end

section
/-! Every command as a path of moves of the kinds that it permits. -/

namespace Sys2Proof.Machine

/-- The kinds of move that a command is made of. -/
def permits : Instr → List Kind
  | .powerOnReset _ => [.reset]
  | .softReset => [.link, .reset]
  | .validFrame _ => [.plain, .link]
  | .badFrame _ => [.plain, .link]
  | .webpos _ => [.plain, .link, .position, .create, .hold, .finish]
  | .markev _ _ _ => [.plain, .create, .hold]
  | .inspect _ _ _ _ => [.plain]
  | .splice _ => [.plain]
  | .webbreak => [.hold]
  | .cutmeas _ _ => [.plain, .loop]
  | .stkready _ _ => [.plain, .finish]
  | .stkfault _ => [.plain, .finish]
  | .changeTimerExpiry _ => [.plain, .finish]
  | .ownEmptySlotOffer _ => [.plain, .link]
  | .linkLossTimerExpiry => [.plain, .link, .hold]
  | .read _ _ _ => [.link]
  | .readStatus => [.link]
  | .unknownRequestKind _ => [.link]
  | .writeNoTable _ _ _ _ => [.link]
  | .writeJob _ _ _ => [.link, .table 1]
  | .writeStation _ _ _ => [.link, .table 2]
  | .writeLoop _ _ _ => [.link, .table 3]
  | .writeSensor _ _ _ => [.link, .table 4]
  | .writeLane _ _ _ => [.link, .table 5]
  | .writeDisp _ _ _ => [.link, .table 6]
  | .writeOverride _ _ _ => [.link, .table 7]
  | .writeSched _ _ _ => [.link, .table 8]
  | .readCounters selector clear =>
    if clearsLaneCounters (.readCounters selector clear) then [.plain, .link, .lanes] else [.plain, .link]
  | .ackAlarms => [.plain, .link]
  | .laneEnable _ => [.plain, .link]
  | .closeStack _ => [.plain, .link]
  | .arm => [.plain, .link, .arm]
  | .start => [.plain, .link, .start]
  | .resume => [.plain, .link, .resume]
  | .clear => [.plain, .link, .clear]
  | .endJob => [.plain, .link, .ends, .finish]
  | .halt => [.link, .hold]

/-- A path of moves of these kinds that creates no more records than one command can. -/
def Runs (ks : List Kind) (s t : State) : Prop :=
  ∃ n ≤ 257, Path ks s n t

section runs
variable {ks : List Kind} {s t : State}

theorem Path.runs (h : Path ks s 0 t) : Runs ks s t :=
  ⟨0, Nat.zero_le _, h⟩

/-- R171: an unaddressed part does nothing. -/
theorem Runs.ifAddressed {f : State → State} (h : Runs ks s (f s)) : Runs ks s (s.ifAddressed f) := by
  unfold State.ifAddressed
  split
  · exact h
  · exact Path.done.runs

theorem Path.linked (link : Kind.link ∈ ks) (s : State) (port : LinkPort) (node : port.node = s.link.node) :
    Path ks s 0 { s with link := port } :=
  .move link (.link port node)

theorem Path.answer (link : Kind.link ∈ ks) (s : State) (code : RespCode) (data : List Byte) :
    Path ks s 0 (s.answer code data) :=
  .linked link s _ rfl

theorem Path.reply (link : Kind.link ∈ ks) (s : State) (code : RespCode) : Path ks s 0 (s.reply code) :=
  .answer link s code []

theorem Path.enterHold (hold : Kind.hold ∈ ks) (s : State) {cause : HoldCause} (named : cause ≠ .none) :
    Path ks s 0 (s.enterHold cause) := by
  by_cases runs : s.running = true
  · exact .move hold (.hold cause runs named)
  · exact .of_eq (if_neg runs)

end runs

/-! ## Arrivals -/

theorem Runs.webpos (reported : Word) (s : State) :
    Runs [.plain, .link, .position, .create, .hold, .finish] s
      (if s.running then
        let d := diff reported s.track.pos
        if d = 0 then s
        else if 65535 < d then (s.setPos reported).enterHold .jump
        else if 0 < d then s.advance reported
        else if -(s.job.station.reverseTolerance : Int) ≤ d then
          s.onTrack fun u => { u with posHeld := satInc u.posHeld }
        else (s.setPos reported).enterHold .reverse
      else s.setPos reported) := by
  have placed : Path [.plain, .link, .position, .create, .hold, .finish] s 0 (s.setPos reported) :=
    .move (by decide) (.position reported)
  have held : ∀ cause ≠ HoldCause.none,
      Runs [.plain, .link, .position, .create, .hold, .finish] s ((s.setPos reported).enterHold cause) :=
    fun cause named => Path.runs (placed.trans (.enterHold (by decide) _ named))
  dsimp only
  split
  · split
    · exact Path.done.runs
    · split
      · exact held .jump (by decide)
      · split
        · obtain ⟨n, hn, advanced⟩ := Path.advance reported s
          exact ⟨n, hn, advanced.mono (by decide)⟩
        · split
          · exact (Path.move (by decide) (.held (satInc s.track.posHeld))).runs
          · exact held .reverse (by decide)
  · exact placed.runs

theorem Runs.receive (bytes : List Byte) (s : State) : Runs [.plain, .link] s (s.receive bytes) := by
  have forwarded : Path [.plain, .link] s 0 (s.forward bytes) := .linked (by decide) s _ rfl
  unfold State.receive
  split
  · split
    · have taken : Path [.plain, .link] (s.forward bytes) 0 (s.forward bytes).acceptFrame :=
        .linked (by decide) _ _ rfl
      have accepted : Path [.plain, .link] s 0 (s.forward bytes).acceptFrame := forwarded.trans taken
      unfold State.takeValidFrame
      dsimp only
      split
      · exact (accepted.trans (.plain (by decide) .frame)).runs
      · exact accepted.runs
    · have counted : Path [.plain, .link] (s.forward bytes) 0 (s.takeBadFrame bytes) := .linked (by decide) _ _ rfl
      exact (forwarded.trans counted).runs
  · exact forwarded.runs

theorem Path.lockTest (s : State) (e : Int) : Path [.plain, .loop] s 0 (s.lockTest e) := by
  have restarted : Path [.plain, .loop] s 0 s.restartRamp := .plain (by decide) .ramp
  have locked : Path [.plain, .loop] s 0 s.lockRequest := by
    unfold State.lockRequest
    split
    · exact .setRegState (by decide) s _
    · exact .done
  have unlocked : Path [.plain, .loop] s 0 s.restartRamp.unlockRequest := by
    unfold State.unlockRequest
    split
    · exact restarted.trans (.setRegState (by decide) _ _)
    · exact restarted
  unfold State.lockTest
  split
  · exact .done
  · split
    · exact locked
    · exact .done
  · split
    · exact unlocked
    · exact .done

theorem Path.useMeasurement (s : State) (r : Record) (error : Half) :
    Path [.plain, .loop] s 0 (s.useMeasurement r error) := by
  have checked : Path [.plain, .loop] s 0 (s.onRecord r.serial fun x => { x with check := .checked }) :=
    .marks (by decide) s _ _ fun _ => rfl
  exact (checked.trans (.move (by decide) (.correct (clampedError error)))).trans (.lockTest _ _)

/-! ## Stacking -/

theorem Path.faultLane (s : State) (k : Fin 8) {cause : FaultCause} (named : cause ≠ .none) :
    Path [.plain, .finish] s 0 (s.faultLane k cause) := by
  have faulted : Path [.plain, .finish] s 0 (s.faultedLane k cause) := .plain (by decide) (.fault k cause named)
  rw [s.faultLane_eq k cause]
  exact (faulted.trans (.notify (by decide) _ _ _ _)).trans (.completeEnding _)

theorem Path.expireIfDue (s : State) (k : Fin 8) : Path [.plain, .finish] s 0 (s.expireIfDue k) := by
  unfold State.expireIfDue
  split
  · exact .faultLane s k (by decide)
  · exact .done

theorem Scheduler.notify_stack (q : Scheduler) (stack : List StackItem) (kind : NoticeKind) (lane : Option (Fin 8))
    (v : Word) : ({ q with stack } : Scheduler).notify kind lane v = { q.notify kind lane v with stack } := by
  unfold Scheduler.notify
  cases coalesce kind lane q.notices with
  | some ns => rfl
  | none =>
    dsimp only
    split <;> rfl

theorem Path.endChange (s : State) (k : Fin 8) (n : Nat) (named : (s.lane k).awaits n = true) :
    Path [.plain, .finish] s 0 (s.endChange k n) := by
  have changed : Path [.plain, .finish] s 0 ((s.onLane k StackLane.released).requestChange k) :=
    .plain (by decide) (.change k n named)
  have noticed := changed.trans (.notify (by decide) _ .stackDone (some k) (BitVec.ofNat 32 n))
  have made : s.endChange k n = (((s.onLane k StackLane.released).requestChange k).notify .stackDone (some k)
      (BitVec.ofNat 32 n)).completeEnding := by
    rw [State.endChange_eq, State.requestChange_onLane, ← Scheduler.notify_stack]
    rfl
  rw [made]
  exact noticed.trans (.completeEnding _)

theorem Runs.stkready (lane : Byte) (number : Half) (s : State) : Runs [.plain, .finish] s
    (match laneOf lane with
    | none => s.countStrayReady
    | some k =>
      let s := s.expireIfDue k
      if (s.lane k).awaits number.toNat then s.endChange k number.toNat else s.countStrayReady) := by
  have stray : ∀ u : State, Path [.plain, .finish] u 0 u.countStrayReady := fun u => .tally (by decide) rfl
  split
  · exact (stray s).runs
  · next k _ =>
    have expired := Path.expireIfDue s k
    dsimp only
    split
    · next named => exact (expired.trans (.endChange _ k _ named)).runs
    · exact (expired.trans (stray _)).runs

theorem Runs.stkfault (lane : Byte) (s : State) : Runs [.plain, .finish] s
    (match laneOf lane with
    | none => s
    | some k => if (s.lane k).state = .ready then s.faultLane k .node else s) := by
  split
  · exact Path.done.runs
  · split
    · exact (Path.faultLane s _ (by decide)).runs
    · exact Path.done.runs

theorem Runs.laneEnable (lane : Byte) (s : State) : Runs [.plain, .link] s
    (match laneOf lane with
    | none => s.reply .badLane
    | some k =>
      (if (s.lane k).state = .fault then
        s.onLane k fun l => { l with state := .ready, cause := .none }
      else s).reply .ok) := by
  split
  · exact (Path.reply (by decide) s _).runs
  · next k _ =>
    refine Path.runs (Path.trans (m := 0) ?_ (.reply (by decide) _ _))
    split
    · next faulted => exact .plain (by decide) (.enable k faulted)
    · exact .done

theorem Runs.closeStack (lane : Byte) (s : State) : Runs [.plain, .link] s
    (match laneOf lane with
    | none => s.reply .badLane
    | some k =>
      if (s.lane k).list.any (·.state == .assigning) then
        ((s.onLane k fun l => { l with list := l.list.map StackRec.closeShort,
                                       gap := (s.cfg k).changeGap }).requestChange k).reply .ok
      else s.reply .wrongState) := by
  split
  · exact (Path.reply (by decide) s _).runs
  · next k _ =>
    split
    · next assigning =>
      have closed : Path [.plain, .link] s 0 ((s.onLane k fun l =>
          { l with list := l.list.map StackRec.closeShort, gap := (s.cfg k).changeGap }).requestChange k) := .plain (by decide) (.short k _ assigning)
      exact (closed.trans (.reply (by decide) _ _)).runs
    · exact (Path.reply (by decide) s _).runs

end Sys2Proof.Machine
end

section
/-! The offer, the requests of the job and the WRITEs as paths, and every command as a path. -/

namespace Sys2Proof.Machine

/-! ## The offer -/

section offer
variable (s : State)

theorem Path.fillSlot (place : Nat) (slot : List Byte) : Path [.plain, .link] s 0 (s.fillSlot place slot) :=
  .linked (by decide) s _ rfl

theorem Path.dropKnife (x : KnifeItem) : Path [.plain] s 0 (s.dropKnife x) := by
  have removed : Path [.plain] s 0 (s.onSched fun q => { q with knife := q.knife.tail }) :=
    .plain (by decide) (.knife _ (List.tail_sublist _))
  exact (removed.trans (.marks (by decide) _ x.serial (fun r => { r with cut := .late, check := .noCheck })
    fun _ => rfl)).trans (.lateCutEffects (by decide) _ _)

theorem Path.dropLateHeads (items : List KnifeItem) : Path [.plain] s 0 (s.dropLateHeads items) := by
  induction items generalizing s with
  | nil => exact .done
  | cons x xs ih =>
    rw [State.dropLateHeads]
    split
    · exact (Path.dropKnife s x).trans (ih _)
    · exact .done

theorem Path.sendKnife (place : Nat) (x : KnifeItem) : Path [.plain, .link] s 0 (s.sendKnife place x) := by
  have removed : Path [.plain, .link] s 0 (s.onSched fun q => { q with knife := q.knife.tail }) :=
    .plain (by decide) (.knife _ (List.tail_sublist _))
  exact (removed.trans (.marks (by decide) _ x.serial (fun r => { r with cut := .sent }) fun _ => rfl)).trans
    (.fillSlot _ place _)

theorem Path.credits : Path [.plain, .link] s 0 (s.onSched fun q => q.choose.2) :=
  .plain (by decide) .credits

theorem Path.sendGate (place : Nat) {x : GateItem} {rest : List GateItem} (head : s.sched.gate = x :: rest) :
    Path [.plain, .link] s 0 (s.sendGate place x) := by
  have tail : (s.onSched fun q => { q with gate := q.gate.tail }) = { s with sched := { s.sched with gate := rest } } := by
    rw [State.onSched, head]
    rfl
  unfold State.sendGate
  dsimp only
  rw [tail]
  refine Path.trans (m := 0) ?_ (.fillSlot _ place _)
  split
  · exact .plain (by decide) (.gateLate x rest head)
  · exact .plain (by decide) (.gate x rest head)

theorem Path.sendStack (place : Nat) {x : StackItem} {rest : List StackItem} (r : StackRec)
    (head : s.sched.stack = x :: rest) : Path [.plain, .link] s 0 (s.sendStack place x r) := by
  have tail : (s.onSched fun q => { q with stack := q.stack.tail }) = { s with sched := { s.sched with stack := rest } } := by
    rw [State.onSched, head]
    rfl
  unfold State.sendStack
  rw [tail]
  exact Path.trans (m := 0) (.plain (by decide) (.stack x rest head)) (.fillSlot _ place _)

theorem Path.sendNotice (place : Nat) (x : Notice) : Path [.plain, .link] s 0 (s.sendNotice place x) := by
  have removed : Path [.plain, .link] s 0 (s.onSched fun q => { q with notices := q.notices.tail }) :=
    .plain (by decide) (.notice _ (List.tail_sublist _) _)
  exact removed.trans (.fillSlot _ place _)

theorem Path.sendChosen {place : Nat} {t : State} (h : s.sendChosen place = .next t) : Path [.plain, .link] s 0 t := by
  have credited := Path.credits s
  obtain ⟨-, gate, stack, notices, -⟩ := s.sched.choose_frame
  unfold State.sendChosen at h
  dsimp only at h
  split at h
  · next x rest _ _ _ head =>
    cases h
    exact credited.trans (.sendGate _ place (gate.trans head))
  · next x rest _ _ _ head =>
    split at h
    · cases h
      exact credited.trans (.sendStack _ place _ (stack.trans head))
    · cases h
  · cases h
    exact credited.trans (.sendNotice _ place _)
  · cases h
    have passed : Path [.plain, .link] (s.onSched fun q => q.choose.2) 0 (s.onSched fun q => q.choose.2).passEmpty :=
      .linked (by decide) _ _ rfl
    exact credited.trans passed

theorem Path.offer {place : Nat} {t : State} (h : s.offer place = .next t) : Path [.plain, .link] s 0 t := by
  have dropped : Path [.plain, .link] s 0 (s.dropLateHeads s.sched.knife) := (Path.dropLateHeads s _).mono (by decide)
  unfold State.offer at h
  dsimp only at h
  split at h
  · cases h
    exact dropped.trans (.sendKnife _ place _)
  · exact dropped.trans (.sendChosen _ h)

end offer

/-! ## Jobs -/

section jobs
variable (s : State)

theorem Runs.arm : Runs [.plain, .link, .arm] s
    (if s.job.state = .config then
      match s.job.armFailure with
      | some reason => s.answer .badJob (beBytes 1 reason.code)
      | none => ((s.onJob fun j => { j with validated := j.loop.limit }).enterJobState .armed .none).reply .ok
    else s.reply .wrongState) := by
  split
  · next config =>
    split
    · exact (Path.answer (by decide) s _ _).runs
    · next passes =>
      have armed : Path [.plain, .link, .arm] s 0
          (s.onJob fun j => { j with validated := j.loop.limit, state := .armed, cause := .none }) :=
        .move (by decide) (.arm config passes)
      exact ((armed.trans (.notify (by decide) _ .jobState none (jobNoticeValue .armed .none))).trans
        (.reply (by decide) _ .ok)).runs
  · exact (Path.reply (by decide) s _).runs

theorem Path.noticeUnless {ks : List Kind} (plain : Kind.plain ∈ ks) (p : Prop) [Decidable p] (kind : NoticeKind)
    (lane : Option (Fin 8)) (v : Word) :
    Path ks s 0 { s with sched := if p then s.sched else s.sched.notify kind lane v } := by
  split
  · exact .done
  · exact .notify plain s kind lane v

theorem Runs.start : Runs [.plain, .link, .start] s
    (if s.job.state = .armed then
      (((s.enterJobState .run .none).restartRegistration.setFirstRecord).clearLoop.restartRamp).reply .ok
    else s.reply .wrongState) := by
  split
  · next armed =>
    have started : Path [.plain, .link, .start] s 0 s.started := .move (by decide) (.start armed)
    have noticed := started.trans (.notify (by decide) _ .jobState none (jobNoticeValue .run .none))
    have freed := noticed.trans (.noticeUnless _ (by decide) (s.reg.state = .free) .regState none 0#32)
    refine Path.runs (Path.trans (m := 0) ?_ (.reply (by decide) _ _))
    rw [State.restartRegistration, State.setRegState_free]
    exact freed
  · exact (Path.reply (by decide) s _).runs

theorem Runs.resume : Runs [.plain, .link, .resume] s
    (if s.job.state = .hold then ((s.enterJobState .run .none).restartRegistration.restartRamp).reply .ok
    else s.reply .wrongState) := by
  split
  · next held =>
    have resumed : Path [.plain, .link, .resume] s 0 s.resumed := .move (by decide) (.resume held)
    have noticed := resumed.trans (.notify (by decide) _ .jobState none (jobNoticeValue .run .none))
    have freed := noticed.trans (.noticeUnless _ (by decide) (s.reg.state = .free) .regState none 0#32)
    refine Path.runs (Path.trans (m := 0) ?_ (.reply (by decide) _ _))
    rw [State.restartRegistration, State.setRegState_free]
    exact freed
  · exact (Path.reply (by decide) s _).runs

theorem Runs.clear : Runs [.plain, .link, .clear] s
    (if s.job.state = .armed ∨ s.job.state = .hold then
      ((s.enterJobState .config .none).discardQueue.clearRegistration.clearStacks).reply .ok
    else s.reply .wrongState) := by
  split
  · next idle =>
    have cleared : Path [.plain, .link, .clear] s 0 s.cleared := .move (by decide) (.clear idle)
    have noticed := cleared.trans (.notify (by decide) _ .jobState none (jobNoticeValue .config .none))
    have freed := noticed.trans (.noticeUnless _ (by decide) (s.reg.state = .free) .regState none 0#32)
    refine Path.runs (Path.trans (m := 0) ?_ (.reply (by decide) _ _))
    have emptied : ∀ q : Scheduler,
        ({ if s.reg.state = .free then q else q.notify .regState none 0#32 with stack := [] } : Scheduler)
          = if s.reg.state = .free then { q with stack := [] }
            else ({ q with stack := [] } : Scheduler).notify .regState none 0#32 := fun q => by
      split
      · rfl
      · exact (Scheduler.notify_stack ..).symm
    have made : (s.enterJobState .config .none).discardQueue.clearRegistration.clearStacks = { s.cleared with
        sched := { if s.reg.state = .free then s.sched.notify .jobState none (jobNoticeValue .config .none)
          else (s.sched.notify .jobState none (jobNoticeValue .config .none)).notify .regState none 0#32 with
          stack := [] } } := by
      unfold State.cleared State.discardQueue
      rw [State.foldl_holdAccount, State.foldl_holdAccount, State.clearRegistration, State.setRegState_free]
      rfl
    rw [made, emptied, ← Scheduler.notify_stack]
    exact freed
  · exact (Path.reply (by decide) s _).runs

theorem Runs.endJob : Runs [.plain, .link, .ends, .finish] s
    (if s.job.state = .run then
      let t := s.closeTail.enterJobState .ending .none
      (if t.track.queue = [] then t.endOfJobClosing else t).reply .ok
    else s.reply .wrongState) := by
  split
  · next run =>
    have ended : Path [.plain, .link, .ends, .finish] s 0 s.ended := .move (by decide) (.ends run)
    have noticed := ended.trans (.notify (by decide) _ .jobState none (jobNoticeValue .ending .none))
    refine Path.runs (Path.trans (m := 0) ?_ (.reply (by decide) _ _))
    split
    · next empty => exact noticed.trans ((Path.endOfJobClosing _ rfl empty).mono (by decide))
    · exact noticed
  · exact (Path.reply (by decide) s _).runs

theorem Runs.halt : Runs [.link, .hold] s
    (if s.running then (s.enterHold .halt).reply .ok else s.reply .wrongState) := by
  split
  · exact Path.runs (Path.trans (.enterHold (by decide) s (by decide)) (.reply (by decide) _ _))
  · exact (Path.reply (by decide) s _).runs

theorem Runs.linkLoss (interval : Nat) : Runs [.plain, .link, .hold] s
    (((s.onLink fun l => { l with timer := none, linkDown := true }).notify .linkDown none
      (BitVec.ofNat 32 interval)).enterHold .linkLoss) := by
  have stopped : Path [.plain, .link, .hold] s 0 (s.onLink fun l => { l with timer := none, linkDown := true }) :=
    .linked (by decide) s _ rfl
  exact Path.runs ((stopped.trans (.notify (by decide) _ _ _ _)).trans (.enterHold (by decide) _ (by decide)))

end jobs

/-! ## Tables -/

section tables
variable {s : State}

theorem Path.finishWrite {α : Type} {ks : List Kind} (link : Kind.link ∈ ks) {checked : Except RespCode α}
    {store : α → State → State} (step : ∀ x, checked = .ok x → Path ks s 0 (store x s)) :
    Path ks s 0 (s.finishWrite checked store) := by
  unfold State.finishWrite
  split
  · next x => exact (step x rfl).trans (.reply link _ _)
  · exact .reply link s _

theorem Path.inConfig {ks : List Kind} (link : Kind.link ∈ ks) {f : State → State}
    (step : s.job.state = .config → Path ks s 0 (f s)) : Path ks s 0 (s.inConfig f) := by
  unfold State.inConfig
  split
  · next config => exact step config
  · exact .reply link s _

/-- What is read by a WRITE is read from some bytes. -/
theorem writeEntries_parsed {α : Type} {entries size : Nat} {parse : List Byte → Option α} {index : Half} {count : Byte}
    {data : List Byte} {es : List α} (h : writeEntries entries size parse index count data = .ok es) :
    ∀ e ∈ es, ∃ b, parse b = some e := by
  unfold writeEntries at h
  split at h
  · cases h
  · split at h
    · next read =>
      cases h
      have read := (parseAll_eq_some parse _ es).1 read
      intro e he
      have : some e ∈ (carried size count.toNat data).map parse := by rw [read]; exact List.mem_map_of_mem he
      obtain ⟨b, -, hb⟩ := List.mem_map.1 this
      exact ⟨b, hb⟩
    · cases h

theorem headEntry_mem {α : Type} {checked : Except RespCode (List α)} {x : α} (h : headEntry checked = .ok x) :
    ∃ es, checked = .ok es ∧ x ∈ es := by
  unfold headEntry at h
  split at h
  · next y es => cases h; exact ⟨_, rfl, List.mem_cons_self⟩
  · cases h
  · cases h

/-- An entry of a table with entries stored is a stored one or stood before. -/
theorem storeFrom_mem {α : Type} {n : Nat} (v : Vector α n) (index : Nat) (es : List α) (i : Nat) (hi : i < n) :
    (storeFrom v index es)[i] ∈ es ∨ (storeFrom v index es)[i] = v[i] := by
  rw [storeFrom_getElem]
  split
  · exact .inl (List.getElem_mem _)
  · exact .inr rfl

theorem Runs.writeJob (index : Half) (count : Byte) (data : List Byte) : Runs [.link, .table 1] s
    (s.inConfig fun s => s.finishWrite (headEntry (writeEntries 1 24 JobRec.parse index count data)) fun x s =>
      s.onJob fun j => { j with job := x }) :=
  Path.runs (.inConfig (by decide) fun config =>
    .finishWrite (by decide) fun x _ => .move (by decide) (.job x config))

theorem Runs.writeStation (index : Half) (count : Byte) (data : List Byte) : Runs [.link, .table 2] s
    (s.inConfig fun s => s.finishWrite (headEntry (writeEntries 1 48 StationRec.parse index count data)) fun x s =>
      s.onJob fun j => { j with station := x }) :=
  Path.runs (.inConfig (by decide) fun config =>
    .finishWrite (by decide) fun x _ => .move (by decide) (.station x config))

theorem State.checkLimit_parsed {checked : Except RespCode LoopRec} {x : LoopRec} (h : s.checkLimit checked = .ok x) :
    checked = .ok x := by
  unfold State.checkLimit at h
  split at h
  · split at h
    · cases h
    · exact h
  · cases h

theorem Runs.writeLoop (index : Half) (count : Byte) (data : List Byte) : Runs [.link, .table 3] s
    (s.finishWrite (s.checkLimit (headEntry (writeEntries 1 12 LoopRec.parse index count data)))
      fun x s => (s.onJob fun j => { j with loop := x }).onCut (·.clampTo x)) := by
  refine Path.runs (.finishWrite (by decide) fun x hx => .move (by decide) (.loop x ?_))
  obtain ⟨es, read, hx⟩ := headEntry_mem (State.checkLimit_parsed hx)
  obtain ⟨b, hb⟩ := writeEntries_parsed read x hx
  obtain ⟨⟨-, -, -, step, -⟩, -⟩ := (LoopRec.parse_eq_some b x).1 hb
  exact step.1

theorem Runs.writeSensor (index : Half) (count : Byte) (data : List Byte) : Runs [.link, .table 4] s
    (s.inConfig fun s => s.finishWrite (writeEntries 2 1 Edge.parse index count data) fun es s =>
      s.onReg fun r => { r with edges := storeFrom r.edges index.toNat es }) :=
  Path.runs (.inConfig (by decide) fun config =>
    .finishWrite (by decide) fun es _ => .move (by decide) (.sensor (storeFrom s.reg.edges index.toNat es) config))

theorem Runs.writeLane (index : Half) (count : Byte) (data : List Byte) : Runs [.link, .table 5] s
    (s.finishWrite (writeEntries 8 12 LaneCfg.parse index count data) fun es s =>
      s.onStk fun u => { u with cfg := storeFrom u.cfg index.toNat es }) := by
  refine Path.runs (.finishWrite (by decide) fun es read =>
    .move (by decide) (.lane (storeFrom s.stk.cfg index.toNat es) fun before k => ?_))
  rcases storeFrom_mem s.stk.cfg index.toNat es k.val k.isLt with stored | stood
  · obtain ⟨b, hb⟩ := writeEntries_parsed read _ stored
    obtain ⟨⟨-, target, -⟩, -⟩ := (LaneCfg.parse_eq_some b _).1 hb
    exact target.1
  · rw [stood]
    exact before k

theorem Runs.writeDisp (index : Half) (count : Byte) (data : List Byte) : Runs [.link, .table 6] s
    (if s.job.state ≠ .config ∧ s.job.state ≠ .armed then s.reply .wrongState
    else if index.toNat % 4 ≠ 0 ∨ (count ≠ 4#8 ∧ count ≠ 8#8) then s.reply .badAlign
    else s.finishWrite (writeEntries 128 1 DispEntry.parse index count data) fun es s =>
      s.onDisp fun d => { d with disp := storeFrom d.disp index.toNat es }) := by
  split
  · exact (Path.reply (by decide) s _).runs
  · next idle =>
    split
    · exact (Path.reply (by decide) s _).runs
    · refine Path.runs (.finishWrite (by decide) fun es _ =>
        .move (by decide) (.disp (storeFrom s.disp.disp index.toNat es) ?_))
      rwa [not_and_or, not_not, not_not] at idle

theorem Runs.writeOverride (index : Half) (count : Byte) (data : List Byte) : Runs [.link, .table 7] s
    (s.finishWrite (writeEntries 32 12 OverrideEntry.parse index count data) fun es s =>
      s.onDisp fun d => { d with overrides := storeFrom d.overrides index.toNat es }) :=
  Path.runs (.finishWrite (by decide) fun es _ =>
    .move (by decide) (.override (storeFrom s.disp.overrides index.toNat es)))

theorem Runs.writeSched (index : Half) (count : Byte) (data : List Byte) : Runs [.link, .table 8] s
    (s.finishWrite (writeEntries 3 2 SchedEntry.parse index count data) fun es s =>
      s.onSched fun q => Scheduler.reload { q with table := storeFrom q.table index.toNat es }) := by
  refine Path.runs (.finishWrite (by decide) fun es read =>
    .move (by decide) (.sched (storeFrom s.sched.table index.toNat es) fun before e he => ?_))
  obtain ⟨i, hi, rfl⟩ := Vector.mem_iff_getElem.1 (Vector.mem_toList_iff.1 he)
  rcases storeFrom_mem s.sched.table index.toNat es i hi with stored | stood
  · obtain ⟨b, hb⟩ := writeEntries_parsed read _ stored
    exact ((SchedEntry.parse_eq_some b _).1 hb).1
  · rw [stood]
    exact before _ (by simp)

end tables

/-! ## The rest -/

theorem Runs.cutmeas (valid : Byte) (error : Half) (s : State) : Runs [.plain, .loop] s
    (match s.track.queue.find? Record.eligible with
    | none => s.onCut fun c => { c with strayMeas := satInc c.strayMeas }
    | some r =>
      if flagSet valid = true ∧ r.origin ≠ .free then s.useMeasurement r error
      else s.onRecord r.serial fun x => { x with check := .ignored }) := by
  split
  · exact Path.runs (.plain (by decide) (.tally rfl))
  · split
    · exact (Path.useMeasurement s _ error).runs
    · exact Path.runs (.marks (by decide) s _ _ fun _ => rfl)

theorem Path.clearDeviceCounters (s : State) : Path [.plain, .link] s 0 s.clearDeviceCounters := by
  have merged : Path [.plain, .link] s 0
      { s with track := { s.track with zones := s.track.zones, stale := 0#32, zoneMerge := 0#32 } } :=
    .plain (by decide) (.touch (.zones false s _ _ _ id))
  have held := merged.trans (.move (κ := .link) (by decide) (.held 0#32))
  have dropped := held.trans (.plain (by decide) (.notice _ (List.Sublist.refl _) 0#32))
  have linked := dropped.trans (.linked (by decide) _ { s.link with badFrames := 0#32 } rfl)
  exact linked.next (by decide) (.tally (t := s.clearDeviceCounters) rfl)

theorem Runs.readCounters (selector clear : Byte) (s : State) : Runs (permits (.readCounters selector clear)) s
    (if selector = 0xFF#8 then
      let t := s.answer .ok (counterBytes s.deviceCounters)
      if flagSet clear then t.clearDeviceCounters else t
    else
      match laneOf selector with
      | none => s.reply .badLane
      | some k =>
        let t := s.answer .ok (counterBytes s.disp.counters[k.val].values)
        if flagSet clear then t.clearLaneCounters k else t) := by
  have both : [Kind.plain, .link] ⊆ permits (.readCounters selector clear) := by
    rw [permits]
    split
    · decide
    · decide
  have answered : ∀ code data, Path (permits (.readCounters selector clear)) s 0 (s.answer code data) :=
    fun code data => (Path.answer (ks := [.plain, .link]) (by decide) s code data).mono both
  dsimp only
  split
  · split
    · exact ((answered _ _).trans ((Path.clearDeviceCounters _).mono both)).runs
    · exact (answered _ _).runs
  · split
    · exact (answered _ _).runs
    · next k named =>
      split
      · next flag =>
        have lanes : Kind.lanes ∈ permits (.readCounters selector clear) := by
          simp [permits, clearsLaneCounters, flag, named]
        exact ((answered _ _).next lanes (.lanes k)).runs
      · exact (answered _ _).runs

/-- Every command is a path of moves of the kinds that it permits. -/
theorem exec_runs {c : Instr} {s t : State} (h : exec c s = .next t) : Runs (permits c) s t := by
  have next {u : State} (h : (.next u : Host.Outcome State Fault Refusal) = .next t) (made : Runs (permits c) s u) :
      Runs (permits c) s t := by
    cases h
    exact made
  cases c with
  | powerOnReset straps => exact next h (Path.runs (.move (by simp [permits]) (.power straps)))
  | softReset => exact next h (.ifAddressed (Path.runs (Path.trans (.reply (by decide) s _) (.move (by decide) .soft))))
  | validFrame bytes => exact next h (.receive bytes s)
  | badFrame bytes => exact next h (.receive bytes s)
  | webpos reported => exact next h (.ifAddressed (.webpos reported s))
  | markev channel edge captured =>
    refine next h (.ifAddressed ?_)
    split
    · next taken =>
      split
      · obtain ⟨n, hn, marked⟩ := Path.takeMark taken.2 captured
        exact ⟨n, by omega, marked⟩
      · unfold State.takeCycleMark
        split
        · exact Path.runs (.plain (by simp [permits]) (.tally rfl))
        · exact Path.done.runs
    · exact Path.done.runs
  | inspect valid lanes captured length =>
    refine next h (.ifAddressed ?_)
    dsimp only
    split
    · exact Path.runs (.touches (by simp [permits]) (State.takeZone_touches _ _ _))
    · exact Path.done.runs
  | splice captured =>
    refine next h (.ifAddressed ?_)
    split
    · exact Path.runs (.touches (by simp [permits]) (State.takeZone_touches _ _ _))
    · exact Path.done.runs
  | webbreak => exact next h (.ifAddressed (Path.runs (.enterHold (by decide) s (by decide))))
  | cutmeas valid error => exact next h (.ifAddressed (.cutmeas valid error s))
  | stkready lane number => exact next h (.ifAddressed (.stkready lane number s))
  | stkfault lane => exact next h (.ifAddressed (.stkfault lane s))
  | ownEmptySlotOffer slot =>
    change execOwnEmptySlotOffer slot s = _ at h
    unfold execOwnEmptySlotOffer at h
    split at h
    · exact Path.runs (.offer s h)
    · exact next h Path.done.runs
  | linkLossTimerExpiry =>
    refine next h ?_
    split
    · exact Path.done.runs
    · next interval _ => exact .linkLoss s interval
  | changeTimerExpiry k => exact next h (Path.runs (.expireIfDue s k))
  | read table index count => exact next h (.ifAddressed (Path.runs (.answer (by simp [permits]) s _ _)))
  | writeJob index count data => exact next h (.ifAddressed (.writeJob index count data))
  | writeStation index count data => exact next h (.ifAddressed (.writeStation index count data))
  | writeLoop index count data => exact next h (.ifAddressed (.writeLoop index count data))
  | writeSensor index count data => exact next h (.ifAddressed (.writeSensor index count data))
  | writeLane index count data => exact next h (.ifAddressed (.writeLane index count data))
  | writeDisp index count data => exact next h (.ifAddressed (.writeDisp index count data))
  | writeOverride index count data => exact next h (.ifAddressed (.writeOverride index count data))
  | writeSched index count data => exact next h (.ifAddressed (.writeSched index count data))
  | readStatus => exact next h (.ifAddressed (Path.runs (.answer (by decide) s _ _)))
  | readCounters selector clear => exact next h (.ifAddressed (.readCounters selector clear s))
  | ackAlarms =>
    have cleared : Path [.plain, .link] s 0 (s.onReg fun r => { r with pitchLow := false, pitchHigh := false }) :=
      .plain (by decide) (.tally rfl)
    exact next h (.ifAddressed (Path.runs (cleared.trans (.reply (by decide) _ _))))
  | laneEnable lane => exact next h (.ifAddressed (.laneEnable lane s))
  | closeStack lane => exact next h (.ifAddressed (.closeStack lane s))
  | arm => exact next h (.ifAddressed (.arm s))
  | start => exact next h (.ifAddressed (.start s))
  | endJob => exact next h (.ifAddressed (.endJob s))
  | halt => exact next h (.ifAddressed (.halt s))
  | resume => exact next h (.ifAddressed (.resume s))
  | clear => exact next h (.ifAddressed (.clear s))
  | unknownRequestKind kind => exact next h (.ifAddressed (Path.runs (.reply (by simp [permits]) s _)))
  | writeNoTable table index count data => exact next h (.ifAddressed (Path.runs (.reply (by simp [permits]) s _)))

end Sys2Proof.Machine
end

section
/-! What commands keep: the waiting commands (O2), the tables, the positions, the next serial and the job state (O60). -/

namespace Sys2Proof.Machine

/-! ## The waiting commands -/

theorem Kind.Allows.pending {κ : Kind} {a b : Settings} (h : κ.Allows a b) : b.pending = a.pending := by
  have same {x : Settings} (made : b = x) (kept : x.pending = a.pending) : b.pending = a.pending := by rw [made, kept]
  cases κ with
  | plain => exact same h rfl
  | lanes => exact same h rfl
  | link => exact same h.1 rfl
  | create => exact same h rfl
  | hold => exact same h.2 rfl
  | finish => exact same h.2 rfl
  | position => exact same h rfl
  | loop => exact same h rfl
  | arm => exact same h.2 rfl
  | start => exact same h.2 rfl
  | resume => exact same h.2 rfl
  | clear => exact same h.2 rfl
  | ends => exact same h.2 rfl
  | reset => exact h
  | table i =>
    rcases h with ⟨-, -, h⟩ | ⟨-, -, h⟩ | ⟨-, h⟩ | ⟨-, -, h⟩ | ⟨-, h⟩ | ⟨-, -, h⟩ | ⟨-, h⟩ | ⟨-, h⟩
    all_goals exact same h rfl

/-- What the settings of each move of these kinds relate, the ends of a path of them do. -/
theorem Path.relates {ks : List Kind} {R : Settings → Settings → Prop} (refl : ∀ a, R a a)
    (trans : ∀ a b c, R a b → R b c → R a c) (step : ∀ κ ∈ ks, ∀ a b, κ.Allows a b → R a b) {n : Nat} {s t : State}
    (h : Path ks s n t) : R s.settings t.settings :=
  h.keeps (P := fun u => R s.settings u.settings)
    (fun κ hκ _ _ move hu => trans _ _ _ hu (step κ hκ _ _ move.allows)) (refl _)

theorem exec_pending {c : Instr} {s t : State} (h : exec c s = .next t) : t.pending = s.pending := by
  obtain ⟨n, -, path⟩ := exec_runs h
  exact path.relates (R := fun a b => b.pending = a.pending) (fun _ => rfl) (fun _ _ _ h h' => h'.trans h)
    fun _ _ _ _ allowed => allowed.pending

theorem State.sendChosen_outcome (s : State) (place : Nat) :
    (∃ t, s.sendChosen place = .next t) ∨ s.sendChosen place = .fault .orphanStackItem := by
  unfold State.sendChosen
  dsimp only
  split
  · exact .inl ⟨_, rfl⟩
  · split
    · exact .inl ⟨_, rfl⟩
    · exact .inr rfl
  · exact .inl ⟨_, rfl⟩
  · exact .inl ⟨_, rfl⟩

theorem State.offer_outcome (s : State) (place : Nat) :
    (∃ t, s.offer place = .next t) ∨ s.offer place = .fault .orphanStackItem := by
  unfold State.offer
  dsimp only
  split
  · exact .inl ⟨_, rfl⟩
  · exact State.sendChosen_outcome _ place

/-- A command answers a next state, or it is an offer that finds no stack for its STACK item. -/
theorem exec_outcome (c : Instr) (s : State) :
    (∃ t, exec c s = .next t) ∨ ∃ slot, c = .ownEmptySlotOffer slot ∧ exec c s = .fault .orphanStackItem := by
  cases c with
  | ownEmptySlotOffer slot =>
    change (∃ t, execOwnEmptySlotOffer slot s = .next t) ∨ ∃ slot', _ ∧ execOwnEmptySlotOffer slot s = _
    unfold execOwnEmptySlotOffer
    split
    · exact (s.offer_outcome _).imp id fun faults => ⟨slot, rfl, faults⟩
    · exact .inl ⟨_, rfl⟩
  | _ => exact .inl ⟨_, rfl⟩

/-- Settles O2: a command that answers a next state is a path of moves, and no move takes a waiting command. -/
theorem commandsKeepTheQueue : Obligations.CommandsKeepTheQueue := by
  intro c s
  rcases exec_outcome c s with ⟨t, next⟩ | faults
  · exact .inl ⟨t, next, exec_pending next⟩
  · exact .inr faults

/-! ## Which command permits which kind -/

/-- READ_COUNTERS permits no more than the kinds that set lane counters to 0. -/
theorem permits_readCounters {selector clear : Byte} {κ : Kind} (h : κ ∈ permits (.readCounters selector clear)) :
    κ = .plain ∨ κ = .link ∨ κ = .lanes := by
  rw [permits] at h
  split at h
  · simpa using h
  · have : κ = .plain ∨ κ = .link := by simpa using h
    exact this.imp id .inl

/-- The table that a command writes, 0 for a command that writes none. -/
def tableWritten : Instr → Fin 9
  | .writeJob _ _ _ => 1
  | .writeStation _ _ _ => 2
  | .writeLoop _ _ _ => 3
  | .writeSensor _ _ _ => 4
  | .writeLane _ _ _ => 5
  | .writeDisp _ _ _ => 6
  | .writeOverride _ _ _ => 7
  | .writeSched _ _ _ => 8
  | _ => 0

theorem permits_table {c : Instr} {i : Fin 9} (h : .table i ∈ permits c) : i = tableWritten c ∧ i ≠ 0 := by
  cases c with
  | readCounters selector clear => simpa using permits_readCounters h
  | _ => simp [permits, tableWritten] at h ⊢ <;> simp [h]

theorem permits_of_written {c : Instr} (h : tableWritten c ≠ 0) : permits c = [.link, .table (tableWritten c)] := by
  cases c with
  | readCounters => exact absurd rfl h
  | _ => simp [tableWritten] at h <;> rfl

theorem permits_reset {c : Instr} (h : .reset ∈ permits c) : (∃ straps, c = .powerOnReset straps) ∨ c = .softReset := by
  cases c with
  | readCounters selector clear => simpa using permits_readCounters h
  | _ => simp [permits] at h ⊢

theorem permits_position {c : Instr} (h : .position ∈ permits c) : ∃ p, c = .webpos p := by
  cases c with
  | readCounters selector clear => simpa using permits_readCounters h
  | _ => simp [permits] at h ⊢

theorem permits_create {c : Instr} (h : .create ∈ permits c) :
    (∃ p, c = .webpos p) ∨ ∃ channel edge p, c = .markev channel edge p := by
  cases c with
  | readCounters selector clear => simpa using permits_readCounters h
  | _ => simp [permits] at h ⊢

theorem permits_hold {c : Instr} (h : .hold ∈ permits c) : (∃ p, c = .webpos p)
    ∨ (∃ channel edge p, c = .markev channel edge p) ∨ c = .webbreak ∨ c = .halt ∨ c = .linkLossTimerExpiry := by
  cases c with
  | readCounters selector clear => simpa using permits_readCounters h
  | _ => simp [permits] at h ⊢

theorem permits_finish {c : Instr} (h : .finish ∈ permits c) : c = .endJob ∨ (∃ p, c = .webpos p)
    ∨ (∃ lane number, c = .stkready lane number) ∨ (∃ lane, c = .stkfault lane) ∨ ∃ k, c = .changeTimerExpiry k := by
  cases c with
  | readCounters selector clear => simpa using permits_readCounters h
  | _ => simp [permits] at h ⊢

theorem permits_job {c : Instr} : (.arm ∈ permits c → c = .arm) ∧ (.start ∈ permits c → c = .start)
    ∧ (.resume ∈ permits c → c = .resume) ∧ (.clear ∈ permits c → c = .clear) ∧ (.ends ∈ permits c → c = .endJob) := by
  cases c with
  | readCounters selector clear =>
    exact ⟨fun h => by simpa using permits_readCounters h, fun h => by simpa using permits_readCounters h,
      fun h => by simpa using permits_readCounters h, fun h => by simpa using permits_readCounters h,
      fun h => by simpa using permits_readCounters h⟩
  | _ => simp [permits]

/-! ## The tables -/

/-- From a to b no table changed but the one of identifier w, and that as its WRITE may; a WRITE changes no more of
the job and the positions than its table. -/
structure TablesKept (w : Fin 9) (a b : Settings) : Prop where
  node : b.link.node = a.link.node
  job : b.job.job ≠ a.job.job → w = 1 ∧ a.job.state = .config
  station : b.job.station ≠ a.job.station → w = 2 ∧ a.job.state = .config
  loop : b.job.loop ≠ a.job.loop → w = 3
  edges : b.edges ≠ a.edges → w = 4 ∧ a.job.state = .config
  cfg : b.cfg ≠ a.cfg → w = 5
  disp : b.disp ≠ a.disp → w = 6 ∧ (a.job.state = .config ∨ a.job.state = .armed)
  overrides : b.overrides ≠ a.overrides → w = 7
  table : b.table ≠ a.table → w = 8
  state : w ≠ 0 → b.job.state = a.job.state

theorem ne_trans_cases {α : Type} {x y z : α} {p q r : Prop} (h : z ≠ x) (hq : q → r) (hp : p → r) (first : y ≠ x → p)
    (second : z ≠ y → q) : r := by
  by_cases same : y = x
  · exact hq (second (same ▸ h))
  · exact hp (first same)

theorem TablesKept.trans {w : Fin 9} {a b c : Settings} (h : TablesKept w a b) (h' : TablesKept w b c) :
    TablesKept w a c := by
  have state {p : JobState → Prop} {i : Fin 9} (hi : i ≠ 0) : w = i ∧ p b.job.state → w = i ∧ p a.job.state := by
    rintro ⟨rfl, hp⟩
    exact ⟨rfl, h.state hi ▸ hp⟩
  exact {
    node := h'.node.trans h.node
    job := fun ne => ne_trans_cases ne (state (p := (· = .config)) (by decide)) id h.job h'.job
    station := fun ne => ne_trans_cases ne (state (p := (· = .config)) (by decide)) id h.station h'.station
    loop := fun ne => ne_trans_cases ne id id h.loop h'.loop
    edges := fun ne => ne_trans_cases ne (state (p := (· = .config)) (by decide)) id h.edges h'.edges
    cfg := fun ne => ne_trans_cases ne id id h.cfg h'.cfg
    disp := fun ne => ne_trans_cases ne (state (p := fun x => x = .config ∨ x = .armed) (by decide)) id h.disp h'.disp
    overrides := fun ne => ne_trans_cases ne id id h.overrides h'.overrides
    table := fun ne => ne_trans_cases ne id id h.table h'.table
    state := fun hw => (h'.state hw).trans (h.state hw) }

/-- The node address and the eight tables. -/
def Settings.tables (a : Settings) : BitVec 6 × JobRec × StationRec × LoopRec × Vector Edge 2 × Vector LaneCfg 8
    × Vector DispEntry 128 × Vector OverrideEntry 32 × Vector SchedEntry 3 :=
  (a.link.node, a.job.job, a.job.station, a.job.loop, a.edges, a.cfg, a.disp, a.overrides, a.table)

theorem Kind.Allows.tables {κ : Kind} {a b : Settings} (h : κ.Allows a b) (not_table : ∀ i, κ ≠ .table i)
    (not_reset : κ ≠ .reset) : b.tables = a.tables := by
  have same {x : Settings} (made : b = x) (kept : x.tables = a.tables) : b.tables = a.tables := by rw [made, kept]
  cases κ with
  | plain => exact same h rfl
  | lanes => exact same h rfl
  | link =>
    refine same h.1 ?_
    show (b.link.node, _) = (a.link.node, _)
    rw [h.2]
  | create => exact same h rfl
  | hold => exact same h.2 rfl
  | finish => exact same h.2 rfl
  | position => exact same h rfl
  | loop => exact same h rfl
  | arm => exact same h.2 rfl
  | start => exact same h.2 rfl
  | resume => exact same h.2 rfl
  | clear => exact same h.2 rfl
  | ends => exact same h.2 rfl
  | reset => exact absurd rfl not_reset
  | table i => exact absurd rfl (not_table i)

theorem TablesKept.of_tables {w : Fin 9} {a b : Settings} (h : b.tables = a.tables)
    (state : w ≠ 0 → b.job.state = a.job.state) : TablesKept w a b := by
  simp only [Settings.tables, Prod.mk.injEq] at h
  obtain ⟨node, job, station, loop, edges, cfg, disp, overrides, table⟩ := h
  exact { node, state
          job := fun ne => absurd job ne
          station := fun ne => absurd station ne
          loop := fun ne => absurd loop ne
          edges := fun ne => absurd edges ne
          cfg := fun ne => absurd cfg ne
          disp := fun ne => absurd disp ne
          overrides := fun ne => absurd overrides ne
          table := fun ne => absurd table ne }

theorem Kind.Allows.tablesKept {c : Instr} {κ : Kind} (permitted : κ ∈ permits c) (not_reset : κ ≠ .reset)
    {a b : Settings} (h : κ.Allows a b) : TablesKept (tableWritten c) a b := by
  by_cases table : ∃ i, κ = .table i
  · obtain ⟨i, rfl⟩ := table
    rw [← (permits_table permitted).1]
    rcases h with ⟨rfl, config, h⟩ | ⟨rfl, config, h⟩ | ⟨rfl, h⟩ | ⟨rfl, config, h⟩ | ⟨rfl, h⟩ | ⟨rfl, idle, h⟩
      | ⟨rfl, h⟩ | ⟨rfl, h⟩
    all_goals
      rw [h]
      clear h
      constructor <;> simp [*]
  · refine .of_tables (h.tables (fun i hi => table ⟨i, hi⟩) not_reset) fun written => ?_
    rw [permits_of_written written] at permitted
    have link : κ = .link := by
      rcases List.mem_cons.1 permitted with hκ | hκ
      · exact hκ
      · exact absurd ⟨_, List.mem_singleton.1 hκ⟩ table
    subst link
    exact (congrArg (·.job.state) h.1 :)

/-! ## The positions and the next serial -/

theorem Kind.Allows.pos {κ : Kind} {a b : Settings} (h : κ.Allows a b) (not_position : κ ≠ .position)
    (not_reset : κ ≠ .reset) : b.pos = a.pos := by
  have same {x : Settings} (made : b = x) (kept : x.pos = a.pos) : b.pos = a.pos := by rw [made, kept]
  cases κ with
  | plain => exact same h rfl
  | lanes => exact same h rfl
  | link => exact same h.1 rfl
  | create => exact same h rfl
  | hold => exact same h.2 rfl
  | finish => exact same h.2 rfl
  | position => exact absurd rfl not_position
  | loop => exact same h rfl
  | arm => exact same h.2 rfl
  | start => exact same h.2 rfl
  | resume => exact same h.2 rfl
  | clear => exact same h.2 rfl
  | ends => exact same h.2 rfl
  | reset => exact absurd rfl not_reset
  | table i =>
    rcases h with ⟨-, -, h⟩ | ⟨-, -, h⟩ | ⟨-, h⟩ | ⟨-, -, h⟩ | ⟨-, h⟩ | ⟨-, -, h⟩ | ⟨-, h⟩ | ⟨-, h⟩
    all_goals exact same h rfl

theorem Kind.Allows.nextSerial {κ : Kind} {a b : Settings} (h : κ.Allows a b) (not_reset : κ ≠ .reset) :
    b.nextSerial = a.nextSerial + BitVec.ofNat 32 κ.records := by
  have same {x : Settings} (made : b = x) (kept : x.nextSerial = a.nextSerial) :
      b.nextSerial = a.nextSerial + BitVec.ofNat 32 0 := by
    rw [made, kept]
    simp
  cases κ with
  | plain => exact same h rfl
  | lanes => exact same h rfl
  | link => exact same h.1 rfl
  | create => exact congrArg Settings.nextSerial h
  | hold => exact same h.2 rfl
  | finish => exact same h.2 rfl
  | position => exact same h rfl
  | loop => exact same h rfl
  | arm => exact same h.2 rfl
  | start => exact same h.2 rfl
  | resume => exact same h.2 rfl
  | clear => exact same h.2 rfl
  | ends => exact same h.2 rfl
  | reset => exact absurd rfl not_reset
  | table i =>
    rcases h with ⟨-, -, h⟩ | ⟨-, -, h⟩ | ⟨-, h⟩ | ⟨-, -, h⟩ | ⟨-, h⟩ | ⟨-, -, h⟩ | ⟨-, h⟩ | ⟨-, h⟩
    all_goals exact same h rfl

/-! ## The job state -/

/-- The change of the job state that a move of this kind makes. -/
def Kind.Turns : Kind → JobState → JobState → Prop
  | .hold, x, y => (x = .run ∨ x = .ending) ∧ y = .hold
  | .finish, x, y => x = .ending ∧ y = .armed
  | .arm, x, y => x = .config ∧ y = .armed
  | .start, x, y => x = .armed ∧ y = .run
  | .resume, x, y => x = .hold ∧ y = .run
  | .clear, x, y => (x = .armed ∨ x = .hold) ∧ y = .config
  | .ends, x, y => x = .run ∧ y = .ending
  | _, _, _ => False

theorem Kind.Allows.turns {κ : Kind} {a b : Settings} (h : κ.Allows a b) (not_reset : κ ≠ .reset) :
    b.job.state = a.job.state ∨ κ.Turns a.job.state b.job.state := by
  have same {x : Settings} (made : b = x) (kept : x.job.state = a.job.state) : b.job.state = a.job.state := by
    rw [made, kept]
  have turned {x : Settings} (made : b = x) {y : JobState} (turned : x.job.state = y) : b.job.state = y := by
    rw [made, turned]
  cases κ with
  | plain => exact .inl (same h rfl)
  | lanes => exact .inl (same h rfl)
  | link => exact .inl (same h.1 rfl)
  | create => exact .inl (same h rfl)
  | hold => exact .inr ⟨h.1, turned h.2 rfl⟩
  | finish => exact .inr ⟨h.1, turned h.2 rfl⟩
  | position => exact .inl (same h rfl)
  | loop => exact .inl (same h rfl)
  | arm => exact .inr ⟨h.1, turned h.2 rfl⟩
  | start => exact .inr ⟨h.1, turned h.2 rfl⟩
  | resume => exact .inr ⟨h.1, turned h.2 rfl⟩
  | clear => exact .inr ⟨h.1, turned h.2 rfl⟩
  | ends => exact .inr ⟨h.1, turned h.2 rfl⟩
  | reset => exact absurd rfl not_reset
  | table i =>
    rcases h with ⟨-, -, h⟩ | ⟨-, -, h⟩ | ⟨-, h⟩ | ⟨-, -, h⟩ | ⟨-, h⟩ | ⟨-, -, h⟩ | ⟨-, h⟩ | ⟨-, h⟩
    all_goals exact .inl (same h rfl)

/-- No command but END makes two changes of the job state. -/
theorem turns_once {c : Instr} (not_end : c ≠ .endJob) {κ κ' : Kind} (hκ : κ ∈ permits c) (hκ' : κ' ∈ permits c)
    {x y z : JobState} (h : κ.Turns x y) (h' : κ'.Turns y z) : False := by
  obtain ⟨arm, start, resume, clear, ends⟩ := permits_job (c := c)
  cases κ with
  | hold =>
    have holds := permits_hold hκ
    obtain ⟨-, rfl⟩ := h
    cases κ' with
    | resume => simp [resume hκ'] at holds
    | clear => simp [clear hκ'] at holds
    | _ => simp [Kind.Turns] at h'
  | finish =>
    have finishes := permits_finish hκ
    obtain ⟨-, rfl⟩ := h
    cases κ' with
    | start => simp [start hκ'] at finishes
    | clear => simp [clear hκ'] at finishes
    | _ => simp [Kind.Turns] at h'
  | arm =>
    obtain ⟨-, rfl⟩ := h
    cases κ' with
    | start => cases (arm hκ).symm.trans (start hκ')
    | clear => cases (arm hκ).symm.trans (clear hκ')
    | _ => simp [Kind.Turns] at h'
  | start =>
    obtain ⟨-, rfl⟩ := h
    cases κ' with
    | hold => simpa [start hκ] using permits_hold hκ'
    | ends => exact not_end (ends hκ')
    | _ => simp [Kind.Turns] at h'
  | resume =>
    obtain ⟨-, rfl⟩ := h
    cases κ' with
    | hold => simpa [resume hκ] using permits_hold hκ'
    | ends => exact not_end (ends hκ')
    | _ => simp [Kind.Turns] at h'
  | clear =>
    obtain ⟨-, rfl⟩ := h
    cases κ' with
    | arm => cases (clear hκ).symm.trans (arm hκ')
    | _ => simp [Kind.Turns] at h'
  | ends => exact not_end (ends hκ)
  | _ => exact h

theorem exec_turns {c : Instr} {s t : State} (h : exec c s = .next t) (not_end : c ≠ .endJob)
    (not_reset : .reset ∉ permits c) :
    t.job.state = s.job.state ∨ ∃ κ ∈ permits c, κ.Turns s.job.state t.job.state := by
  obtain ⟨n, -, path⟩ := exec_runs h
  refine path.relates (R := fun a b => b.job.state = a.job.state ∨ ∃ κ ∈ permits c, κ.Turns a.job.state b.job.state)
    (fun _ => .inl rfl) (fun a b c' h h' => ?_) fun κ hκ a b allowed => ?_
  · rcases h with same | ⟨κ, hκ, turns⟩
    · rwa [← same]
    · rcases h' with same | ⟨κ', hκ', turns'⟩
      · rw [same]
        exact .inr ⟨κ, hκ, turns⟩
      · exact (turns_once not_end hκ hκ' turns turns').elim
  · exact (allowed.turns fun e => not_reset (e ▸ hκ)).imp id fun turns => ⟨κ, hκ, turns⟩

/-- R161: END outside RUN is refused. -/
theorem exec_endJob_elsewhere {s t : State} (h : exec .endJob s = .next t) (hr : s.job.state ≠ .run) :
    t.job.state = s.job.state := by
  change execEndJob s = _ at h
  unfold execEndJob State.ifAddressed at h
  dsimp only at h
  rw [if_neg hr] at h
  split at h <;> cases h <;> rfl

/-- R18: a mark outside RUN does nothing. -/
theorem exec_markev_elsewhere {s t : State} {channel edge : Byte} {captured : Word}
    (h : exec (.markev channel edge captured) s = .next t) (hr : s.job.state ≠ .run) : t = s := by
  change execMarkev channel edge captured s = _ at h
  unfold execMarkev State.ifAddressed at h
  dsimp only at h
  rw [if_neg (c := s.edgeSelected channel edge = true ∧ s.job.state = .run) fun taken => hr taken.2, ite_self] at h
  cases h
  rfl

/-- R161, R162: END in RUN leads to ENDING, and with nothing left to ARMED. -/
theorem exec_endJob_turns {s t : State} (h : exec .endJob s = .next t) (hr : s.job.state = .run) :
    t.job.state = .run ∨ t.job.state = .ending ∨ t.job.state = .armed := by
  obtain ⟨n, -, path⟩ := exec_runs h
  have turned := path.relates
    (R := fun a b => (a.job.state = .run ∨ a.job.state = .ending ∨ a.job.state = .armed) →
      b.job.state = .run ∨ b.job.state = .ending ∨ b.job.state = .armed)
    (fun _ => id) (fun _ _ _ h h' => h' ∘ h) fun κ hκ a b allowed ha => ?_
  · exact turned (.inl hr)
  · rcases allowed.turns (fun e => by simp [e, permits] at hκ) with same | turns
    · rwa [same]
    · have kinds : κ = .plain ∨ κ = .link ∨ κ = .ends ∨ κ = .finish := by simpa [permits] using hκ
      rcases kinds with rfl | rfl | rfl | rfl
      · exact turns.elim
      · exact turns.elim
      · exact .inr (.inl turns.2)
      · exact .inr (.inr turns.2)

theorem exec_tablesKept {c : Instr} {s t : State} (h : exec c s = .next t) (not_power : ∀ straps, c ≠ .powerOnReset straps) :
    TablesKept (tableWritten c) s.settings t.settings := by
  by_cases soft : c = .softReset
  · subst soft
    change execSoftReset s = _ at h
    unfold execSoftReset State.ifAddressed at h
    split at h <;> cases h <;> exact .of_tables rfl fun written => absurd rfl written
  · obtain ⟨n, -, path⟩ := exec_runs h
    refine path.relates (R := TablesKept (tableWritten c)) (fun _ => .of_tables rfl fun _ => rfl) (fun _ _ _ => TablesKept.trans)
      fun κ hκ _ _ allowed => allowed.tablesKept hκ ?_
    rintro rfl
    rcases permits_reset hκ with ⟨straps, power⟩ | reset
    · exact not_power straps power
    · exact soft reset

theorem exec_pos {c : Instr} {s t : State} (h : exec c s = .next t) (not_reset : .reset ∉ permits c)
    (moved : t.track.pos ≠ s.track.pos) : .position ∈ permits c := by
  by_contra not_position
  obtain ⟨n, -, path⟩ := exec_runs h
  exact moved (path.relates (R := fun a b => b.pos = a.pos) (fun _ => rfl) (fun _ _ _ h h' => h'.trans h)
    fun κ hκ _ _ allowed => allowed.pos (fun e => not_position (e ▸ hκ)) fun e => not_reset (e ▸ hκ))

theorem exec_nextSerial {c : Instr} {s t : State} (h : exec c s = .next t) (not_reset : .reset ∉ permits c)
    (moved : t.track.nextSerial ≠ s.track.nextSerial) : .create ∈ permits c := by
  by_contra not_create
  obtain ⟨n, -, path⟩ := exec_runs h
  refine moved (path.relates (R := fun a b => b.nextSerial = a.nextSerial) (fun _ => rfl) (fun _ _ _ h h' => h'.trans h)
    fun κ hκ _ _ allowed => ?_)
  have records : κ.records = 0 := by
    cases κ with
    | create => exact absurd hκ not_create
    | _ => rfl
  rw [allowed.nextSerial fun e => not_reset (e ▸ hκ), records]
  simp

/-- Settles O60: what each kind of move allows, and which command permits which kind; END and a mark outside RUN by
themselves. -/
theorem onlyTheseCommandsChangeThese : Obligations.OnlyTheseCommandsChangeThese := by
  intro c s t h not_power writes reports
  have kept := exec_tablesKept h not_power
  have written : (tableWritten c = 1 → writes .writeJob) ∧ (tableWritten c = 2 → writes .writeStation)
      ∧ (tableWritten c = 3 → writes .writeLoop) ∧ (tableWritten c = 4 → writes .writeSensor)
      ∧ (tableWritten c = 5 → writes .writeLane) ∧ (tableWritten c = 6 → writes .writeDisp)
      ∧ (tableWritten c = 7 → writes .writeOverride) ∧ (tableWritten c = 8 → writes .writeSched) := by
    cases c <;> simp [tableWritten, writes]
  obtain ⟨job, station, loop, sensor, lane, disp, override, sched⟩ := written
  have not_reset (not_soft : c ≠ .softReset) : .reset ∉ permits c := fun reset =>
    (permits_reset reset).elim (fun ⟨straps, power⟩ => not_power straps power) not_soft
  refine ⟨kept.node, fun ne => ⟨(kept.job ne).2, job (kept.job ne).1⟩,
    fun ne => ⟨(kept.station ne).2, station (kept.station ne).1⟩, fun ne => loop (kept.loop ne),
    fun ne => ⟨(kept.edges ne).2, sensor (kept.edges ne).1⟩, fun ne => lane (kept.cfg ne),
    fun ne => ⟨(kept.disp ne).2, disp (kept.disp ne).1⟩, fun ne => override (kept.overrides ne),
    fun ne => sched (kept.table ne), fun not_soft moved => permits_position (exec_pos h (not_reset not_soft) moved),
    fun not_soft moved => permits_create (exec_nextSerial h (not_reset not_soft) moved), fun not_soft moved => ?_⟩
  by_cases not_end : c = .endJob
  · subst not_end
    have run : s.job.state = .run := by
      by_contra hr
      exact moved (exec_endJob_elsewhere h hr)
    rcases exec_endJob_turns h run with same | ending | armed
    · exact absurd (same.trans run.symm) moved
    · rw [run, ending]
    · rw [run, armed]
  · obtain ⟨arm, start, resume, clear, ends⟩ := permits_job (c := c)
    rcases exec_turns h not_end (not_reset not_soft) with same | ⟨κ, hκ, turns⟩
    · exact absurd same moved
    · cases κ with
      | hold =>
        obtain ⟨run | ending, held⟩ := turns
        · rw [run, held]
          exact permits_hold hκ
        · rw [ending, held]
          rcases permits_hold hκ with webpos | ⟨channel, edge, captured, rfl⟩ | rest
          · exact .inl webpos
          · exact absurd (congrArg (·.job.state) (exec_markev_elsewhere h (by rw [ending]; decide))) moved
          · exact .inr rest
      | finish =>
        obtain ⟨ending, armed⟩ := turns
        rw [ending, armed]
        exact (permits_finish hκ).resolve_left not_end
      | arm =>
        obtain ⟨config, armed⟩ := turns
        rw [config, armed]
        exact arm hκ
      | start =>
        obtain ⟨armed, run⟩ := turns
        rw [armed, run]
        exact start hκ
      | resume =>
        obtain ⟨held, run⟩ := turns
        rw [held, run]
        exact resume hκ
      | clear =>
        obtain ⟨armed | held, config⟩ := turns
        · rw [armed, config]
          exact clear hκ
        · rw [held, config]
          exact clear hκ
      | ends => exact absurd (ends hκ) not_end
      | _ => exact turns.elim

end Sys2Proof.Machine
end

section
/-! The bounds of the correction loop (R84), kept by every move. -/

namespace Sys2Proof.Machine

/-- What every move keeps, whatever commands wait, every step keeps. -/
theorem step_keeps {P : State → Prop} (waiting : ∀ (s : State) (pending : List Instr), P s → P { s with pending })
    (moves : ∀ κ s t, Move κ s t → P s → P t) {s t : State} (h : step s = .next t) (hs : P s) : P t := by
  unfold step at h
  split at h
  · cases h
    exact hs
  · next c rest _ =>
    obtain ⟨n, -, path⟩ := exec_runs h
    exact path.keeps (fun κ _ s t => moves κ s t) (waiting s rest hs)

/-- What the bounds of R84 speak of. -/
def State.loopView (s : State) : Int × Int × Int × Nat × LoopRec :=
  (s.cut.target, s.cut.applied, s.cut.integral, s.cut.ramp, s.job.loop)

theorem State.LoopBounded.of_view {s t : State} (h : s.LoopBounded) (same : t.loopView = s.loopView) : t.LoopBounded := by
  simp only [State.loopView, Prod.mk.injEq] at same
  obtain ⟨target, applied, integral, ramp, loop⟩ := same
  unfold State.LoopBounded
  rw [target, applied, integral, ramp, loop]
  exact h

theorem State.loopView_of_cut {s t : State} (cut : t.cut = s.cut) (job : t.job = s.job) : t.loopView = s.loopView := by
  rw [State.loopView, State.loopView, cut, job]

theorem clamp_natAbs (v : Int) (bound : Nat) : (clamp v (-(bound : Int)) bound).natAbs ≤ bound := by
  rw [clamp_eq_max_min _ _ _ (by omega)]
  omega

theorem clamp_natAbs_mul (v : Int) (bound : Nat) : (clamp v (-(bound * 256 : Int)) (bound * 256)).natAbs ≤ bound * 256 := by
  rw [clamp_eq_max_min _ _ _ (by omega)]
  omega

/-- R87, R89: a step of the applied correction stays between it and the target, and the ramp grows to the step limit. -/
theorem State.stepped_bounded {s : State} (h : s.LoopBounded) : s.stepped.LoopBounded := by
  obtain ⟨target, applied, integral, low, high⟩ := h
  refine ⟨target, ?_, integral, ?_, ?_⟩
  · show s.steppedCorrection.natAbs ≤ s.job.loop.limit
    unfold State.steppedCorrection
    rw [clamp_eq_max_min _ _ _ (by omega)]
    omega
  · show 1 ≤ s.grownRamp
    unfold State.grownRamp
    split <;> omega
  · show s.grownRamp ≤ max 1 s.job.loop.maxStep
    unfold State.grownRamp
    split <;> omega

theorem rampStart_bounded (maxStep : Nat) : 1 ≤ rampStart maxStep ∧ rampStart maxStep ≤ max 1 maxStep := by
  unfold rampStart
  omega

theorem State.closeTail_loopView (s : State) : s.closeTail.loopView = s.loopView := by
  unfold State.closeTail
  split
  · rfl
  · next r _ =>
    have touches := State.closeRecord_touches r (shift r.nominalStart s.job.job.pitch)
      (s.onRecord r.serial fun x => { x with tail := true })
    exact State.loopView_of_cut touches.cut touches.job

theorem State.powerOn_loopBounded (straps : BitVec 6) : (State.powerOn straps).LoopBounded :=
  ⟨Nat.zero_le _, Nat.zero_le _, Nat.zero_le _, Nat.le_refl 1, Nat.le_refl 1⟩

/-- R84: every move keeps the bounds. -/
theorem Move.loopBounded {κ : Kind} {s t : State} (move : Move κ s t) (h : s.LoopBounded) : t.LoopBounded := by
  cases move with
  | touch touch =>
    have touches : Touches false s t := .single touch
    exact h.of_view (State.loopView_of_cut touches.cut touches.job)
  | tally same => exact h.of_view (congrArg State.loopView same :)
  | step => exact State.stepped_bounded h
  | commit r _ _ cutLine labelEnd _ _ _ _ _ room =>
    rw [State.commit_passes room]
    exact h.of_view (congrArg State.loopView
      (s.commitLanes_frame r cutLine labelEnd s.lanesInUse s.lanesInUse_nodup).rest :)
  | retire r _ _ split _ =>
    exact h.of_view (congrArg State.loopView
      (State.arrived_frame (r := r) (by rw [split]; exact List.cons_ne_nil _ _)).rest :)
  | close _ _ =>
    rw [State.closedLanes_eq]
    exact h
  | change k _ _ =>
    rw [State.requestChange_onLane]
    exact h
  | short k _ _ =>
    rw [State.requestChange_onLane]
    exact h
  | ramp =>
    obtain ⟨target, applied, integral, -, -⟩ := h
    exact ⟨target, applied, integral, rampStart_bounded _⟩
  | create anchor origin cls emptied _ _ _ =>
    have kept : ∀ u : State, (u.createRecord anchor origin cls).loopView = u.loopView := fun u => by
      obtain ⟨-, -, -, -, cut, job, -⟩ := u.createRecord_kept anchor origin cls
      exact State.loopView_of_cut cut job
    cases emptied with
    | false => exact h.of_view (kept s)
    | true => exact h.of_view (kept s.clearRing)
  | hold cause runs _ =>
    rw [State.enterHold_eq s cause runs]
    exact h
  | correct e =>
    obtain ⟨target, applied, integral, ramp⟩ := h
    show _ ≤ _ ∧ _ ≤ _ ∧ _ ≤ _ ∧ _ ≤ _ ∧ _ ≤ _
    simp only [State.onCut]
    rw [CutControl.correct_eq]
    split
    · exact ⟨target, applied, integral, ramp⟩
    · exact ⟨clamp_natAbs _ _, applied, clamp_natAbs_mul _ _, ramp⟩
  | start armed => exact ⟨Nat.zero_le _, Nat.zero_le _, Nat.zero_le _, rampStart_bounded _⟩
  | resume held =>
    obtain ⟨target, applied, integral, -, -⟩ := h
    exact ⟨target, applied, integral, rampStart_bounded _⟩
  | clear idle =>
    unfold State.cleared State.discardQueue
    rw [State.foldl_holdAccount]
    exact h
  | ends run =>
    have kept := s.closeTail_loopView
    exact h.of_view (kept :)
  | loop x ranged =>
    obtain ⟨-, -, -, low, high⟩ := h
    refine ⟨clamp_natAbs _ _, clamp_natAbs _ _, clamp_natAbs_mul _ _, ?_, ?_⟩
    · show 1 ≤ min s.cut.ramp x.maxStep
      omega
    · show min s.cut.ramp x.maxStep ≤ max 1 x.maxStep
      omega
  | soft => exact ⟨Nat.zero_le _, Nat.zero_le _, Nat.zero_le _, rampStart_bounded _⟩
  | power straps => exact State.powerOn_loopBounded straps
  | _ => exact h

/-- Settles O57: every move keeps the bounds, and a step is a path of moves. -/
theorem loopStaysBounded : Obligations.LoopStaysBounded :=
  fun _ _ h stepped => step_keeps (fun _ _ h => h) (fun _ _ _ => Move.loopBounded) stepped h

end Sys2Proof.Machine
end

section
/-! The anchors rise along the queue (R30, R32, R41), after every move. -/

namespace Sys2Proof.Machine

/-! ## What it is about -/

/-- `State.AnchorsRise` of the fields that it reads. -/
structure Rising (state : JobState) (job : JobRec) (anchors : List Word) (samples : List Int) (estimate : Int)
    (last : Word) : Prop where
  idle : state = .run ∨ state = .ending ∨ anchors = []
  spaced : state ≠ .config → job.Spaced
  fresh : state = .config → samples = []
  clamped : 2 ^ job.depth ≤ samples.length →
    (job.pitch : Int) - job.window ≤ estimate ∧ estimate ≤ (job.pitch : Int) + job.window
  chain : anchors.IsChain fun a b => beyond b a = true
  youngest : state = .run → ∀ a ∈ anchors.getLast?, last = a

theorem State.anchorsRise_iff (s : State) : s.AnchorsRise ↔ Rising s.job.state s.job.job
    (s.track.queue.map (·.anchor)) s.reg.samples s.reg.estimate s.reg.lastAnchor := by
  have youngest : (∀ a ∈ (s.track.queue.map (·.anchor)).getLast?, s.reg.lastAnchor = a)
      ↔ ∀ r ∈ s.track.queue.getLast?, s.reg.lastAnchor = r.anchor := by
    simp [List.getLast?_map]
  constructor
  · rintro ⟨idle, spaced, fresh, clamped, chain, last⟩
    exact ⟨idle.imp id (Or.imp id fun h => by rw [h]; rfl), spaced, fresh, clamped, (List.isChain_map _).2 chain,
      fun run => youngest.2 (last run)⟩
  · rintro ⟨idle, spaced, fresh, clamped, chain, last⟩
    exact ⟨idle.imp id (Or.imp id List.map_eq_nil_iff.1), spaced, fresh, clamped, (List.isChain_map _).1 chain,
      fun run => youngest.1 (last run)⟩

theorem State.AnchorsRise.of_kept {s t : State} (h : s.AnchorsRise) (job : t.job = s.job)
    (anchors : t.track.queue.map (·.anchor) = s.track.queue.map (·.anchor)) (reg : t.reg = s.reg) : t.AnchorsRise := by
  rw [State.anchorsRise_iff] at h ⊢
  rwa [job, anchors, reg]

/-- With an empty queue and a ring cleared, what is left is the job that ARM passed. -/
theorem State.AnchorsRise.of_empty {s : State} (spaced : s.job.state ≠ .config → s.job.job.Spaced)
    (empty : s.track.queue = []) (samples : s.reg.samples = []) : s.AnchorsRise := by
  refine ⟨.inr (.inr empty), spaced, fun _ => samples, fun enough => ?_, ?_, fun _ r hr => ?_⟩
  · rw [samples] at enough
    exact absurd enough (by simp)
  · rw [empty]
    exact List.isChain_nil
  · rw [empty] at hr
    cases hr

/-- Outside CONFIG the anchors may go, the registration unit staying as it is. -/
theorem State.AnchorsRise.of_discarded {s t : State} (h : s.AnchorsRise) (state : s.job.state ≠ .config)
    (state' : t.job.state ≠ .config) (job : t.job.job = s.job.job) (reg : t.reg = s.reg) (empty : t.track.queue = []) :
    t.AnchorsRise := by
  rw [State.anchorsRise_iff] at h ⊢
  rw [job, reg, empty]
  exact ⟨.inr (.inr rfl), fun _ => h.spaced state, fun config => absurd config state', h.clamped, List.isChain_nil,
    fun _ a ha => by cases ha⟩

/-! ## The operations -/

theorem CommitFrame.anchors {r : Record} {ks : List (Fin 8)} {s t : State} (h : CommitFrame r ks s t) :
    t.track.queue.map (·.anchor) = s.track.queue.map (·.anchor) := by
  obtain ⟨g, track, fields⟩ := h.record
  rw [track]
  exact s.onRecord_map r.serial g (·.anchor) fun x => (congrArg Record.anchor (fields x).1 :)

theorem State.createRecord_anchors (s : State) (anchor : Word) (origin : Origin) (cls : RegState) :
    (s.createRecord anchor origin cls).track.queue.map (·.anchor) = s.track.queue.map (·.anchor) ++ [anchor] := by
  rw [(s.createRecord_kept anchor origin cls).1,
    (s.withNext_touches anchor origin cls).queue_map (·.anchor) fun _ => rfl, State.countSlip_eq]
  exact List.map_append

/-- R31, R32: the estimate lies within the clamp once there are samples enough, before and so after a pitch sample. -/
def State.Clamped (s : State) : Prop :=
  2 ^ s.job.job.depth ≤ s.reg.samples.length →
    (s.job.job.pitch : Int) - s.job.job.window ≤ s.reg.estimate
      ∧ s.reg.estimate ≤ (s.job.job.pitch : Int) + s.job.job.window

theorem clampedEstimate_within (job : JobRec) (samples : List Int) :
    (job.pitch : Int) - job.window ≤ clampedEstimate job samples
      ∧ clampedEstimate job samples ≤ (job.pitch : Int) + job.window := by
  unfold clampedEstimate
  rw [clamp_eq_max_min _ _ _ (by omega)]
  omega

theorem State.placeSample_clamped (s : State) (sample : Int) : (s.placeSample sample).Clamped := by
  have job : (s.placeSample sample).job = s.job := (congrArg State.job (s.placeSample_unsampled sample) :)
  unfold State.Clamped
  rw [job]
  rcases Nat.lt_or_ge ((sample :: s.reg.samples).take 32).length (2 ^ s.job.job.depth) with few | enough
  · rw [s.placeSample_few sample few]
    exact fun enough => absurd enough (Nat.not_le.2 few)
  · obtain ⟨-, estimate, -⟩ := s.placeSample_enough_reg sample enough
    rw [estimate]
    exact fun _ => clampedEstimate_within _ _

theorem State.createRecord_clamped (s : State) (anchor : Word) (origin : Origin) (cls : RegState) (h : s.Clamped) :
    (s.createRecord anchor origin cls).Clamped := by
  have before : (s.withNext anchor origin cls).Clamped := by
    have touches := s.withNext_touches anchor origin cls
    unfold State.Clamped
    rw [State.withNext_reg, touches.job, State.countSlip_eq]
    exact h
  have after : (s.withNextSampled anchor origin cls).Clamped := by
    unfold State.withNextSampled
    split
    · exact State.placeSample_clamped _ _
    · exact before
  rw [State.createRecord_eq]
  exact after


theorem State.closeTail_kept (s : State) : s.closeTail.job = s.job ∧ s.closeTail.reg = s.reg
    ∧ s.closeTail.track.queue.map (·.anchor) = s.track.queue.map (·.anchor) := by
  unfold State.closeTail
  split
  · exact ⟨rfl, rfl, rfl⟩
  · next r _ =>
    have touches := State.closeRecord_touches r (shift r.nominalStart s.job.job.pitch)
      (s.onRecord r.serial fun x => { x with tail := true })
    exact ⟨touches.job, touches.reg,
      (touches.queue_map _ fun _ => rfl).trans (s.onRecord_map r.serial _ (·.anchor) fun _ => rfl)⟩

theorem JobControl.armFailure_spaced {c : JobControl} (passes : c.armFailure = none) : c.job.Spaced := by
  have all := List.find?_eq_none.1 passes
  have length := all .repeatLength (by decide)
  have window := all .window (by decide)
  simp [ArmReason.holds] at length window
  exact ⟨length.1, length.2.1, window.1, window.2⟩

/-- R30: the record created stands beyond the last anchor, which was the youngest record's. -/
theorem Rising.appended {state : JobState} {job : JobRec} {anchors : List Word} {samples : List Int} {estimate : Int}
    {last anchor : Word} (h : Rising state job anchors samples estimate last) (run : state = .run)
    (beyond_last : beyond anchor last = true) (samples' : List Int) (estimate' : Int)
    (clamped : 2 ^ job.depth ≤ samples'.length →
      (job.pitch : Int) - job.window ≤ estimate' ∧ estimate' ≤ (job.pitch : Int) + job.window) :
    Rising state job (anchors ++ [anchor]) samples' estimate' anchor := by
  refine ⟨.inl run, h.spaced, fun config => ?_, clamped, ?_, fun _ a ha => ?_⟩
  · rw [run] at config
    cases config
  · refine h.chain.append (List.isChain_singleton _) fun a ha b hb => ?_
    rw [List.head?_cons, Option.mem_some_iff] at hb
    rw [← hb, ← h.youngest run a ha]
    exact beyond_last
  · rw [List.getLast?_concat, Option.mem_some_iff] at ha
    exact ha

theorem State.createRecord_rises {s : State} {anchor : Word} (origin : Origin) (cls : RegState) (h : s.AnchorsRise)
    (run : s.job.state = .run) (rises : beyond anchor s.reg.lastAnchor = true) :
    (s.createRecord anchor origin cls).AnchorsRise := by
  obtain ⟨-, -, -, -, -, job, -⟩ := s.createRecord_kept anchor origin cls
  have clamped := s.createRecord_clamped anchor origin cls h.2.2.2.1
  have last : (s.createRecord anchor origin cls).reg.lastAnchor = anchor :=
    (congrArg Registration.lastAnchor (s.createRecord_reg anchor origin cls) :)
  unfold State.Clamped at clamped
  rw [job] at clamped
  rw [State.anchorsRise_iff] at h ⊢
  rw [job, State.createRecord_anchors, last]
  exact h.appended run rises _ _ clamped

theorem State.AnchorsRise.clearRing {s : State} (h : s.AnchorsRise) : s.clearRing.AnchorsRise := by
  rw [State.anchorsRise_iff] at h ⊢
  exact ⟨h.idle, h.spaced, fun _ => rfl, fun enough => absurd enough (by simp [State.clearRing, State.onReg]), h.chain, h.youngest⟩

theorem State.AnchorsRise.retired {s : State} (h : s.AnchorsRise) : s.retired.AnchorsRise := by
  rw [State.anchorsRise_iff] at h ⊢
  show Rising s.job.state s.job.job (s.track.queue.tail.map (·.anchor)) s.reg.samples s.reg.estimate s.reg.lastAnchor
  rw [List.map_tail]
  refine ⟨h.idle.imp id (Or.imp id fun empty => by rw [empty]; rfl), h.spaced, h.fresh, h.clamped, h.chain.tail,
    fun run a ha => h.youngest run a ?_⟩
  rw [List.getLast?_tail] at ha
  split at ha
  · cases ha
  · exact ha

/-- R41: every move keeps the anchors rising. -/
theorem Move.anchorsRise {κ : Kind} {s t : State} (move : Move κ s t) (h : s.AnchorsRise) : t.AnchorsRise := by
  have idle_empty (state : s.job.state ≠ .run) (state' : s.job.state ≠ .ending) : s.track.queue = [] :=
    (h.1.resolve_left state).resolve_left state'
  have spaced := h.2.1
  cases move with
  | touch touch =>
    have touches : Touches false s t := .single touch
    exact h.of_kept touches.job (touches.queue_map _ fun _ => rfl) touches.reg
  | tally same =>
    have job : t.job = s.job := (congrArg State.job same :)
    have track : t.track = s.track := (congrArg State.track same :)
    have samples : t.reg.samples = s.reg.samples := (congrArg (·.reg.samples) same :)
    have estimate : t.reg.estimate = s.reg.estimate := (congrArg (·.reg.estimate) same :)
    have last : t.reg.lastAnchor = s.reg.lastAnchor := (congrArg (·.reg.lastAnchor) same :)
    rw [State.anchorsRise_iff] at h ⊢
    rwa [job, track, samples, estimate, last]
  | commit r _ _ cutLine labelEnd _ _ _ _ _ room =>
    have frame := s.commitLanes_frame r cutLine labelEnd s.lanesInUse s.lanesInUse_nodup
    rw [State.commit_passes room]
    exact h.of_kept (congrArg State.job frame.rest :) ((State.onRecord_map _ r.serial
      (fun x => { x with commit := .committed }) (·.anchor) fun _ => rfl).trans frame.anchors)
      (congrArg State.reg frame.rest :)
  | retire r _ _ split _ =>
    have frame := State.arrived_frame (s := s) (r := r) (by rw [split]; exact List.cons_ne_nil _ _)
    exact (h.of_kept (t := s.arrived r) (congrArg State.job frame.rest :) (by rw [frame.track])
      (congrArg State.reg frame.rest :)).retired
  | close _ _ =>
    rw [State.closedLanes_eq]
    exact h
  | change k _ _ =>
    rw [State.requestChange_onLane]
    exact h
  | short k _ _ =>
    rw [State.requestChange_onLane]
    exact h
  | create anchor origin cls emptied run _ rises =>
    cases emptied with
    | false => exact State.createRecord_rises origin cls h run (rises h)
    | true => exact State.createRecord_rises origin cls h.clearRing run (rises h)
  | hold cause runs _ =>
    have state : s.job.state ≠ .config := fun config => by
      rw [s.running_iff, config] at runs
      simp at runs
    rw [State.enterHold_eq s cause runs]
    exact h.of_discarded state (by simp) rfl rfl rfl
  | finish ending empty => exact h.of_discarded (by rw [ending]; decide) (by simp [State.onJob]) rfl rfl empty
  | arm config passes =>
    exact .of_empty (fun _ => JobControl.armFailure_spaced passes)
      (idle_empty (by rw [config]; decide) (by rw [config]; decide)) (h.2.2.1 config)
  | start armed =>
    exact .of_empty (fun _ => spaced (by rw [armed]; decide))
      (idle_empty (by rw [armed]; decide) (by rw [armed]; decide)) rfl
  | resume held =>
    exact .of_empty (fun _ => spaced (by rw [held]; decide))
      (idle_empty (by rw [held]; decide) (by rw [held]; decide)) rfl
  | clear idle => exact .of_empty (fun ne => absurd rfl ne) rfl rfl
  | ends run =>
    obtain ⟨job, reg, anchors⟩ := s.closeTail_kept
    rw [State.anchorsRise_iff] at h ⊢
    show Rising .ending s.closeTail.job.job (s.closeTail.track.queue.map (·.anchor)) s.closeTail.reg.samples
      s.closeTail.reg.estimate s.closeTail.reg.lastAnchor
    rw [job, reg, anchors]
    exact ⟨.inr (.inl rfl), fun _ => h.spaced (by rw [run]; decide), nofun, h.clamped, h.chain, nofun⟩
  | job x config =>
    exact .of_empty (fun ne => absurd config ne)
      (idle_empty (by rw [config]; decide) (by rw [config]; decide)) (h.2.2.1 config)
  | soft => exact .of_empty (fun ne => absurd rfl ne) rfl rfl
  | power straps => exact .of_empty (fun ne => absurd rfl ne) rfl rfl
  | _ => exact h

/-- Settles O56: every move keeps the anchors rising, and a step is a path of moves. -/
theorem anchorsKeepRising : Obligations.AnchorsKeepRising :=
  fun _ _ h stepped => step_keeps (fun _ _ h => h) (fun _ _ _ => Move.anchorsRise) stepped h

end Sys2Proof.Machine
end

section
/-! Stack lists: the shape of R121, R122 and R130 under every operation on a list. -/

namespace Sys2Proof.Machine

/-! ## The shape of a list -/

/-- The shape of a stack list, the test of R130 apart: at most four records, each keeping R122; only the oldest may be
CHANGING or requested, only the youngest ASSIGNING, and a CHANGING record is requested. -/
structure Shapely (list : List StackRec) : Prop where
  few : list.length ≤ 4
  sound : ∀ r ∈ list, r.Sound
  waits : ∀ r ∈ list.tail, r.state ≠ .changing ∧ r.requested = false
  full : ∀ r ∈ list.dropLast, r.state ≠ .assigning
  changing : ∀ r ∈ list.head?, r.state = .changing → r.requested = true

/-- The number that the list's STACK item must name (R130, R146). -/
def queuedOf : List StackRec → List Nat
  | r :: _ => if r.requested = true ∧ r.state = .filled then [r.number] else []
  | [] => []

theorem StackLane.queued_eq (l : StackLane) : l.queued = queuedOf l.list := by
  unfold StackLane.queued
  cases l.list <;> rfl

/-- The oldest record is CHANGING. -/
def changingOf (list : List StackRec) : Bool :=
  list.head?.any (·.state == .changing)

theorem Shapely.nil : Shapely [] :=
  ⟨Nat.zero_le _, by simp, by simp, by simp, by simp⟩

section map
variable {list : List StackRec} {f : StackRec → StackRec}

/-- A change of every record that keeps R122, what is CHANGING and what is requested, and makes none ASSIGNING. -/
structure Shaping (f : StackRec → StackRec) : Prop where
  sound : ∀ r, r.Sound → (f r).Sound
  changing : ∀ r, (f r).state = .changing ↔ r.state = .changing
  requested : ∀ r, (f r).requested = r.requested
  assigning : ∀ r, (f r).state = .assigning → r.state = .assigning
  state : ∀ r, r.Sound → r.requested = true → (f r).state = r.state
  number : ∀ r, (f r).number = r.number

theorem Shapely.map (h : Shapely list) (hf : Shaping f) : Shapely (list.map f) where
  few := by simpa using h.few
  sound := by
    intro x hx
    obtain ⟨r, hr, rfl⟩ := List.mem_map.1 hx
    exact hf.sound r (h.sound r hr)
  waits := by
    intro x hx
    rw [← List.map_tail] at hx
    obtain ⟨r, hr, rfl⟩ := List.mem_map.1 hx
    rw [Ne, hf.changing, hf.requested]
    exact h.waits r hr
  full := by
    intro x hx assigning
    rw [← List.map_dropLast] at hx
    obtain ⟨r, hr, rfl⟩ := List.mem_map.1 hx
    exact h.full r hr (hf.assigning r assigning)
  changing := by
    intro x hx
    rw [List.head?_map, Option.mem_def, Option.map_eq_some_iff] at hx
    obtain ⟨r, hr, rfl⟩ := hx
    rw [hf.changing, hf.requested]
    exact h.changing r hr

theorem Shaping.changingOf (hf : Shaping f) (list : List StackRec) : changingOf (list.map f) = changingOf list := by
  cases list with
  | nil => rfl
  | cons r rest =>
    show ((f r).state == .changing) = (r.state == .changing)
    rw [Bool.eq_iff_iff, beq_iff_eq, beq_iff_eq]
    exact hf.changing r

theorem Shaping.queuedOf (hf : Shaping f) (h : Shapely list) : queuedOf (list.map f) = queuedOf list := by
  cases list with
  | nil => rfl
  | cons r rest =>
    have state := hf.state r (h.sound r (by simp))
    show (if _ then _ else _) = if _ then _ else _
    rw [hf.requested, hf.number]
    by_cases requested : r.requested = true
    · rw [state requested]
    · rw [if_neg fun asked => requested asked.1, if_neg fun asked => requested asked.1]

end map

theorem StackRec.closeShort_shaping : Shaping StackRec.closeShort where
  sound r h := by
    obtain ⟨one, assigning, requested⟩ := h
    unfold StackRec.closeShort
    split
    · exact ⟨one, nofun, requested⟩
    · exact ⟨one, assigning, requested⟩
  changing r := by
    unfold StackRec.closeShort
    split
    · next assigning => simp [assigning]
    · exact Iff.rfl
  requested r := by unfold StackRec.closeShort; split <;> rfl
  assigning r h := by
    unfold StackRec.closeShort at h
    split at h
    · cases h
    · exact h
  state r h requested := by
    unfold StackRec.closeShort
    split
    · next assigning => exact absurd (h.2.1 assigning).2 (by rw [requested]; decide)
    · rfl
  number r := by unfold StackRec.closeShort; split <;> rfl

/-- R127: a landing. -/
theorem landing_shaping (n : Nat) (changing : Bool) : Shaping fun r => if r.number = n then
    { r with arrived := r.arrived + 1, held := if changing then r.held + 1 else r.held } else r where
  sound r h := by
    obtain ⟨one, assigning, requested⟩ := h
    split
    · exact ⟨one, assigning, fun asked => Nat.le_succ_of_le (requested asked)⟩
    · exact ⟨one, assigning, requested⟩
  changing r := by split <;> exact Iff.rfl
  requested r := by split <;> rfl
  assigning r := by split <;> exact id
  state r _ _ := by split <;> rfl
  number r := by split <;> rfl

/-- R126: the label joins the ASSIGNING record. -/
theorem joining_shaping : Shaping fun r => if r.state = .assigning then r.take else r where
  sound r h := by
    obtain ⟨one, assigning, requested⟩ := h
    split
    · next open_ =>
      obtain ⟨below, unasked⟩ := assigning open_
      refine ⟨Nat.le_succ_of_le one, fun still => ⟨?_, unasked⟩, fun asked => ?_⟩
      · have : r.assigned + 1 ≠ r.target := fun target => by simp [StackRec.take, target] at still
        show r.assigned + 1 < r.target
        omega
      · exact absurd (unasked.symm.trans asked) (by decide)
    · exact ⟨one, assigning, requested⟩
  changing r := by
    split
    · next open_ =>
      rw [open_]
      unfold StackRec.take
      split <;> simp [open_]
    · exact Iff.rfl
  requested r := by split <;> rfl
  assigning r := by
    split
    · next open_ => exact fun _ => open_
    · exact id
  state r h asked := by
    split
    · next open_ => exact absurd (h.2.1 open_).2 (by rw [asked]; decide)
    · rfl
  number r := by split <;> rfl

/-! ## The test of R130 -/

theorem changeAsked_cons (r : StackRec) (rest : List StackRec) :
    changeAsked (r :: rest) = if r.DueByRule then { r with requested := true } :: rest else r :: rest :=
  rfl

theorem changeItems_cons (k : Fin 8) (r : StackRec) (rest : List StackRec) :
    changeItems k (r :: rest) = if r.DueByRule then [{ lane := k, number := r.number }] else [] :=
  rfl

theorem Shapely.changeAsked {list : List StackRec} (h : Shapely list) : Shapely (changeAsked list) := by
  cases list with
  | nil => exact h
  | cons r rest =>
    rw [changeAsked_cons]
    split
    · next due =>
      obtain ⟨filled, landed, -⟩ := due
      obtain ⟨few, sound, waits, full, -⟩ := h
      have others : ∀ x ∈ rest, x.Sound := fun x hx => sound x (List.mem_cons_of_mem _ hx)
      refine ⟨few, List.forall_mem_cons.2 ⟨⟨(sound r (by simp)).1, fun assigning => ?_, fun _ => landed.ge⟩, others⟩, waits,
        fun x hx => ?_, by simp⟩
      · exact absurd (filled.symm.trans assigning) (by decide)
      · cases rest with
        | nil => cases hx
        | cons y ys =>
          rcases List.mem_cons.1 hx with rfl | hx
          · rw [filled]
            decide
          · exact full x (List.mem_cons_of_mem _ hx)
    · exact h

theorem changeAsked_not_due (list : List StackRec) : ∀ r ∈ (changeAsked list).head?, r.changeDue = false := by
  cases list with
  | nil => simp [changeAsked]
  | cons r rest =>
    rw [changeAsked_cons]
    intro x hx
    rw [Bool.eq_false_iff, Ne, StackRec.changeDue_iff]
    split at hx
    · cases hx
      exact fun due => absurd due.2.2 (by simp)
    · next not_due =>
      cases hx
      exact not_due

theorem changeAsked_changingOf (list : List StackRec) : changingOf (changeAsked list) = changingOf list := by
  cases list with
  | nil => rfl
  | cons r rest =>
    rw [changeAsked_cons]
    split <;> rfl

theorem changeAsked_queuedOf (k : Fin 8) (list : List StackRec) :
    queuedOf (changeAsked list) = queuedOf list ++ (changeItems k list).map (·.number) := by
  cases list with
  | nil => rfl
  | cons r rest =>
    rw [changeAsked_cons, changeItems_cons]
    split
    · next due =>
      obtain ⟨filled, -, unasked⟩ := due
      simp [queuedOf, filled, unasked]
    · simp

/-! ## A stack opened, a change ended, a settlement and a change sent -/

theorem Shapely.opened {list : List StackRec} (h : Shapely list) (room : list.length < 4)
    (none_open : ∀ r ∈ list, r.state ≠ .assigning) {x : StackRec} (sound : x.Sound) (unasked : x.requested = false)
    (not_changing : x.state ≠ .changing) : Shapely (list ++ [x]) where
  few := by simpa using room
  sound r hr := by
    rcases List.mem_append.1 hr with hr | hr
    · exact h.sound r hr
    · rw [List.mem_singleton.1 hr]
      exact sound
  waits r hr := by
    cases list with
    | nil => cases hr
    | cons y ys =>
      rcases List.mem_append.1 hr with hr | hr
      · exact h.waits r hr
      · rw [List.mem_singleton.1 hr]
        exact ⟨not_changing, unasked⟩
  full r hr := by
    rw [List.dropLast_concat] at hr
    exact none_open r hr
  changing r hr := by
    cases list with
    | nil =>
      cases hr
      exact fun changing => absurd changing not_changing
    | cons y ys => exact h.changing r hr

theorem queuedOf_opened {list : List StackRec} {x : StackRec} (unasked : x.requested = false) :
    queuedOf (list ++ [x]) = queuedOf list := by
  cases list with
  | nil => simp [queuedOf, unasked]
  | cons y ys => rfl

theorem changingOf_opened {list : List StackRec} {x : StackRec} (not_changing : x.state ≠ .changing) :
    changingOf (list ++ [x]) = changingOf list := by
  cases list with
  | nil => simp [changingOf, not_changing]
  | cons y ys => rfl

/-- R133: the record that was in change goes, and nothing is held. -/
theorem Shapely.released {list : List StackRec} (h : Shapely list) :
    Shapely (list.tail.map fun r => { r with held := 0 }) ∧ queuedOf (list.tail.map fun r => { r with held := 0 }) = []
      ∧ changingOf (list.tail.map fun r => { r with held := 0 }) = false := by
  have unheld : Shaping fun r : StackRec => { r with held := 0 } :=
    ⟨fun _ h => h, fun _ => Iff.rfl, fun _ => rfl, fun _ => id, fun _ _ _ => rfl, fun _ => rfl⟩
  have rest : Shapely list.tail := by
    refine ⟨(List.length_tail ▸ Nat.sub_le _ _).trans h.few, fun r hr => h.sound r (List.mem_of_mem_tail hr),
      fun r hr => h.waits r (List.mem_of_mem_tail hr), fun r hr => h.full r ?_, fun r hr changing => ?_⟩
    · rw [← List.tail_dropLast] at hr
      exact List.mem_of_mem_tail hr
    · exact absurd changing (h.waits r (List.mem_of_mem_head? hr)).1
  refine ⟨rest.map unheld, (unheld.queuedOf rest).trans ?_, (unheld.changingOf _).trans ?_⟩
  · cases hl : list.tail with
    | nil => rfl
    | cons r rs => simp [queuedOf, (h.waits r (by simp [hl])).2]
  · cases hl : list.tail with
    | nil => rfl
    | cons r rs => simp [changingOf, (h.waits r (by simp [hl])).1]

/-- R139: what the settlement leaves of a record. -/
theorem StackRec.settle_some {r x : StackRec} (h : r.settle = some x) (sound : r.Sound) :
    x.Sound ∧ x.state ≠ .assigning ∧ (x.state = .changing → r.state = .changing) ∧ x.requested = r.requested := by
  obtain ⟨one, assigning, requested⟩ := sound
  unfold StackRec.settle at h
  split at h
  · next changing =>
    cases h
    exact ⟨⟨one, assigning, requested⟩, by rw [changing]; decide, id, rfl⟩
  · split at h
    · cases h
    · next landed =>
      split at h
      · next short =>
        cases h
        exact ⟨⟨Nat.pos_of_ne_zero landed, nofun, fun _ => le_rfl⟩, nofun, nofun, rfl⟩
      · next complete =>
        cases h
        exact ⟨⟨one, assigning, requested⟩, fun open_ => complete (.inr open_), id, rfl⟩

/-- R139: a requested record stays as it is. -/
theorem StackRec.settle_requested {r : StackRec} (sound : r.Sound) (asked : r.requested = true) : r.settle = some r := by
  obtain ⟨one, assigning, requested⟩ := sound
  have landed := requested asked
  have not_open : r.state ≠ .assigning := fun open_ => absurd (assigning open_).2 (by rw [asked]; decide)
  unfold StackRec.settle
  split
  · rfl
  · rw [if_neg (by omega), if_neg (by simp only [not_or]; exact ⟨by omega, not_open⟩)]

theorem Shapely.settled {list : List StackRec} (h : Shapely list) : Shapely (list.filterMap StackRec.settle)
    ∧ queuedOf (list.filterMap StackRec.settle) = queuedOf list
    ∧ changingOf (list.filterMap StackRec.settle) = changingOf list := by
  have waiting : ∀ rest : List StackRec, (∀ r ∈ rest, r.Sound) → (∀ r ∈ rest, r.state ≠ .changing ∧ r.requested = false) →
      ∀ x ∈ rest.filterMap StackRec.settle, x.state ≠ .changing ∧ x.requested = false := by
    intro rest sound waits x hx
    obtain ⟨r, hr, settled⟩ := List.mem_filterMap.1 hx
    obtain ⟨-, -, changing, requested⟩ := StackRec.settle_some settled (sound r hr)
    exact ⟨fun c => (waits r hr).1 (changing c), requested.trans (waits r hr).2⟩
  have each : ∀ x ∈ list.filterMap StackRec.settle, x.Sound ∧ x.state ≠ .assigning := by
    intro x hx
    obtain ⟨r, hr, settled⟩ := List.mem_filterMap.1 hx
    obtain ⟨sound, not_open, -⟩ := StackRec.settle_some settled (h.sound r hr)
    exact ⟨sound, not_open⟩
  have few := (List.length_filterMap_le StackRec.settle list).trans h.few
  have full : ∀ r ∈ (list.filterMap StackRec.settle).dropLast, r.state ≠ .assigning :=
    fun r hr => (each r (List.mem_of_mem_dropLast hr)).2
  cases list with
  | nil => exact ⟨.nil, rfl, rfl⟩
  | cons r rest =>
    have others := waiting rest (fun x hx => h.sound x (List.mem_cons_of_mem _ hx)) h.waits
    by_cases asked : r.requested = true
    · have kept := StackRec.settle_requested (h.sound r (by simp)) asked
      have split : (r :: rest).filterMap StackRec.settle = r :: rest.filterMap StackRec.settle :=
        List.filterMap_cons_some kept
      rw [split] at few full each ⊢
      exact ⟨⟨few, fun x hx => (each x hx).1, others, full, h.changing⟩, rfl, rfl⟩
    · have not_changing : r.state ≠ .changing := fun changing => asked (h.changing r rfl changing)
      have all : ∀ x ∈ (r :: rest).filterMap StackRec.settle, x.state ≠ .changing ∧ x.requested = false :=
        waiting (r :: rest) h.sound (List.forall_mem_cons.2 ⟨⟨not_changing, Bool.eq_false_iff.2 asked⟩, h.waits⟩)
      refine ⟨⟨few, fun x hx => (each x hx).1, fun x hx => all x (List.mem_of_mem_tail hx), full,
        fun x hx changing => absurd changing (all x (List.mem_of_mem_head? hx)).1⟩, ?_, ?_⟩
      · have unasked : queuedOf (r :: rest) = [] := if_neg fun h => asked h.1
        rw [unasked]
        cases hl : (r :: rest).filterMap StackRec.settle with
        | nil => rfl
        | cons x xs => simp [queuedOf, (all x (by simp [hl])).2]
      · have still : changingOf (r :: rest) = false := by simp [changingOf, not_changing]
        rw [still]
        cases hl : (r :: rest).filterMap StackRec.settle with
        | nil => rfl
        | cons x xs => simp [changingOf, (all x (by simp [hl])).1]

/-- R131: the record that the STACK item names is the oldest; it becomes CHANGING. -/
theorem Shapely.changed {list : List StackRec} (h : Shapely list) {n : Nat} (named : queuedOf list = [n]) :
    Shapely (changeFirst n list) ∧ queuedOf (changeFirst n list) = [] ∧ changingOf (changeFirst n list) = true
      ∧ (∀ r ∈ (changeFirst n list).head?, r.changeDue = false) ∧ ∃ r ∈ list, r.number = n := by
  cases list with
  | nil => cases named
  | cons r rest =>
    obtain ⟨few, sound, waits, full, changing⟩ := h
    by_cases asked : r.requested = true ∧ r.state = .filled
    · rw [queuedOf, if_pos asked, List.cons.injEq] at named
      have first : changeFirst n (r :: rest) = { r with state := .changing } :: rest := if_pos named.1
      obtain ⟨one, -, requested⟩ := sound r (by simp)
      rw [first]
      refine ⟨⟨few, List.forall_mem_cons.2 ⟨⟨one, nofun, requested⟩, fun x hx => sound x (List.mem_cons_of_mem _ hx)⟩,
        waits, fun x hx => ?_, fun x hx _ => ?_⟩, by simp [queuedOf], by simp [changingOf], ?_, r, by simp, named.1⟩
      · cases rest with
        | nil => cases hx
        | cons y ys =>
          rcases List.mem_cons.1 hx with rfl | hx
          · exact nofun
          · exact full x (List.mem_cons_of_mem _ hx)
      · cases hx
        exact asked.1
      · intro x hx
        cases hx
        simp [StackRec.changeDue]
    · rw [queuedOf, if_neg asked] at named
      cases named

end Sys2Proof.Machine
end

section
/-! The stacking unit stays sound under every move (R121, R122, R130, R135, R146). -/

namespace Sys2Proof.Machine

/-! ## Lanes -/

/-- A sound lane, but for the test of R130, which is still to be made. -/
structure StackLane.Askable (l : StackLane) : Prop where
  shape : Shapely l.list
  timer : l.timer.isSome = changingOf l.list
  faulted : l.state = .fault → l.list = [] ∧ l.gap = 0
  cause : l.state = .ready ↔ l.cause = .none

theorem StackLane.sound_iff (l : StackLane) : l.Sound ↔ l.Askable ∧ ∀ r ∈ l.list.head?, r.changeDue = false := by
  unfold StackLane.Sound
  rw [StackLane.changing_eq]
  constructor
  · rintro ⟨few, sound, waits, full, timer, head, faulted, cause⟩
    exact ⟨⟨⟨few, sound, waits, full, fun r hr => (head r hr).2⟩, timer, faulted, cause⟩, fun r hr => (head r hr).1⟩
  · rintro ⟨⟨⟨few, sound, waits, full, changing⟩, timer, faulted, cause⟩, head⟩
    exact ⟨few, sound, waits, full, timer, fun r hr => ⟨head r hr, changing r hr⟩, faulted, cause⟩

theorem StackLane.Askable.asked {l : StackLane} (h : l.Askable) :
    ({ l with list := changeAsked l.list } : StackLane).Sound := by
  refine (StackLane.sound_iff _).2 ⟨⟨h.shape.changeAsked, ?_, fun faulted => ?_, h.cause⟩, changeAsked_not_due _⟩
  · rw [changeAsked_changingOf]
    exact h.timer
  · obtain ⟨empty, gap⟩ := h.faulted faulted
    exact ⟨by rw [empty]; rfl, gap⟩

/-- What the soundness of the stacking unit says of one lane with these STACK items. -/
structure LaneHolds (target : Nat) (items : List StackItem) (l : StackLane) : Prop where
  sound : l.Sound
  target : 1 ≤ target
  items : items.map (·.number) = queuedOf l.list

theorem State.stackingSound_iff (s : State) : s.StackingSound ↔
    ∀ k : Fin 8, LaneHolds (s.cfg k).target (s.sched.stack.filter (·.lane == k)) (s.lane k) := by
  refine forall_congr' fun k => ?_
  rw [StackLane.queued_eq]
  exact ⟨fun ⟨sound, target, items⟩ => ⟨sound, target, items⟩, fun ⟨sound, target, items⟩ => ⟨sound, target, items⟩⟩

/-- R130: a lane changed to one that may be asked, and then asked. -/
theorem LaneHolds.asked {target : Nat} {items : List StackItem} {l l' : StackLane} (h : LaneHolds target items l)
    (k : Fin 8) (askable : l'.Askable) (queued : queuedOf l'.list = queuedOf l.list) :
    LaneHolds target (items ++ changeItems k l'.list) { l' with list := changeAsked l'.list } where
  sound := askable.asked
  target := h.target
  items := by
    rw [List.map_append, h.items, changeAsked_queuedOf k, queued]

theorem changeItems_filter (k j : Fin 8) (list : List StackRec) :
    (changeItems k list).filter (·.lane == j) = if j = k then changeItems k list else [] := by
  cases list with
  | nil => split <;> rfl
  | cons r rest =>
    rw [changeItems_cons]
    by_cases same : j = k
    · subst same
      split <;> simp
    · have other : ¬k = j := fun e => same e.symm
      split <;> simp [other]

section lanes
variable (s : State) (k j : Fin 8) (f : StackLane → StackLane)

theorem State.asked_lane : ((s.onLane k f).requestChange k).lane j
    = if j = k then { f (s.lane k) with list := changeAsked (f (s.lane k)).list } else s.lane j := by
  rw [State.requestChange_onLane]
  split
  · next same =>
    subst same
    exact Vector.getElem_set_self _
  · next other => exact Vector.getElem_set_ne k.isLt j.isLt fun e => other (Fin.ext e.symm)

theorem State.asked_cfg : ((s.onLane k f).requestChange k).cfg j = s.cfg j := by
  rw [State.requestChange_onLane]
  rfl

theorem State.asked_stack :
    ((s.onLane k f).requestChange k).sched.stack = s.sched.stack ++ changeItems k (f (s.lane k)).list := by
  rw [State.requestChange_onLane]

end lanes

/-- R130: one lane changed and asked. -/
theorem State.StackingSound.asked {s : State} (h : s.StackingSound) (k : Fin 8) (f : StackLane → StackLane)
    (askable : (s.lane k).Sound → (f (s.lane k)).Askable ∧ queuedOf (f (s.lane k)).list = queuedOf (s.lane k).list) :
    ((s.onLane k f).requestChange k).StackingSound := by
  rw [State.stackingSound_iff] at h ⊢
  intro j
  rw [State.asked_cfg, State.asked_stack, State.asked_lane, List.filter_append, changeItems_filter]
  by_cases same : j = k
  · subst same
    obtain ⟨askable, queued⟩ := askable (h j).sound
    rw [if_pos rfl, if_pos rfl]
    exact (h j).asked j askable queued
  · rw [if_neg same, if_neg same, List.append_nil]
    exact h j

theorem flatMap_single {α : Type} (g : Fin 8 → List α) {l : List (Fin 8)} (distinct : l.Nodup) {j : Fin 8} (hj : j ∈ l) :
    (l.flatMap fun k => if j = k then g k else []) = g j := by
  obtain ⟨below, above, rfl⟩ := List.append_of_mem hj
  rw [List.nodup_middle, List.nodup_cons, List.mem_append, not_or] at distinct
  obtain ⟨⟨not_below, not_above⟩, -⟩ := distinct
  have none : ∀ ks : List (Fin 8), j ∉ ks → (ks.flatMap fun k => if j = k then g k else []) = [] := fun ks hks =>
    List.flatMap_eq_nil_iff.2 fun k hk => if_neg fun e : j = k => hks (e ▸ hk)
  rw [List.flatMap_append, List.flatMap_cons, none _ not_below, none _ not_above, if_pos rfl]
  simp

theorem flatMap_changeItems_filter (f : Fin 8 → List StackRec) (j : Fin 8) :
    (allLanes.flatMap fun k => changeItems k (f k)).filter (·.lane == j) = changeItems j (f j) := by
  rw [List.filter_flatMap]
  simp only [changeItems_filter]
  exact flatMap_single (fun k => changeItems k (f k)) allLanes_nodup (by revert j; decide)

/-- R130: every lane changed and asked. -/
theorem State.StackingSound.allAsked {s t : State} (h : s.StackingSound) (f : StackLane → StackLane)
    (askable : ∀ l : StackLane, l.Sound → (f l).Askable ∧ queuedOf (f l).list = queuedOf l.list)
    (cfg : ∀ k, t.cfg k = s.cfg k) (lanes : ∀ k, t.lane k = { f (s.lane k) with list := changeAsked (f (s.lane k)).list })
    (stack : t.sched.stack = s.sched.stack ++ allLanes.flatMap fun k => changeItems k (f (s.lane k)).list) :
    t.StackingSound := by
  rw [State.stackingSound_iff] at h ⊢
  intro j
  obtain ⟨askable, queued⟩ := askable _ (h j).sound
  rw [cfg, lanes, stack, List.filter_append, flatMap_changeItems_filter fun k => (f (s.lane k)).list]
  exact (h j).asked j askable queued

/-! ## What becomes of a lane -/

section lane
variable {l : StackLane}

theorem StackLane.Sound.askable (h : l.Sound) : l.Askable :=
  ((StackLane.sound_iff l).1 h).1

/-- A sound lane with a stack is READY. -/
theorem StackLane.Askable.not_faulted (h : l.Askable) (stands : l.list ≠ []) : l.state ≠ .fault :=
  fun faulted => stands (h.faulted faulted).1

/-- A change of every record leaves a lane that may be asked, the gap staying 0 in FAULT. -/
theorem StackLane.Askable.map (h : l.Askable) {f : StackRec → StackRec} (hf : Shaping f) (gap : Nat)
    (stays : l.state = .fault → gap = 0) : ({ l with list := l.list.map f, gap } : StackLane).Askable
      ∧ queuedOf (l.list.map f) = queuedOf l.list := by
  refine ⟨⟨h.shape.map hf, ?_, fun faulted => ?_, h.cause⟩, hf.queuedOf h.shape⟩
  · rw [hf.changingOf]
    exact h.timer
  · obtain ⟨empty, -⟩ := h.faulted faulted
    exact ⟨by rw [empty]; rfl, stays faulted⟩

theorem StackLane.closedAtEnd_askable (h : l.Sound) :
    l.closedAtEnd.Askable ∧ queuedOf l.closedAtEnd.list = queuedOf l.list :=
  h.askable.map StackRec.closeShort_shaping 0 fun _ => rfl

theorem StackLane.land_askable (n : Nat) (h : l.Sound) :
    (l.land n).Askable ∧ queuedOf (l.land n).list = queuedOf l.list :=
  h.askable.map (landing_shaping n l.changing) l.gap fun faulted => (h.askable.faulted faulted).2

theorem StackLane.settled_askable (h : l.Sound) : l.settled.Askable ∧ queuedOf l.settled.list = queuedOf l.list := by
  obtain ⟨shape, queued, changing⟩ := h.askable.shape.settled
  refine ⟨⟨shape, ?_, fun faulted => ?_, h.askable.cause⟩, queued⟩
  · rw [StackLane.settled_list, changing]
    exact h.askable.timer
  · obtain ⟨empty, -⟩ := h.askable.faulted faulted
    exact ⟨by rw [StackLane.settled_list, empty]; rfl, rfl⟩

/-- R133: the lane whose change ends has no STACK item waiting, before and after. -/
theorem StackLane.released_askable (h : l.Sound) {n : Nat} (named : l.awaits n = true) :
    l.released.Askable ∧ queuedOf l.released.list = queuedOf l.list := by
  obtain ⟨shape, queued, changing⟩ := h.askable.shape.released
  obtain ⟨r, rest, hl, state, -⟩ := (StackLane.awaits_iff l n).1 named
  have stands : l.list ≠ [] := by rw [hl]; exact List.cons_ne_nil _ _
  refine ⟨⟨shape, changing.symm, fun faulted => absurd faulted (h.askable.not_faulted stands), h.askable.cause⟩, ?_⟩
  rw [hl]
  exact queued.trans (if_neg fun asked => absurd (state.symm.trans asked.2) (by decide)).symm

/-- R125: a stack opened in a lane in which none is ASSIGNING. -/
theorem StackLane.openFor_askable {cfg : LaneCfg} {design : Nat} (target : 1 ≤ cfg.target) (h : l.Askable)
    (ready : l.state = .ready) (none_open : ∀ r ∈ l.list, r.state ≠ .assigning) :
    (l.openFor cfg design).2.Askable ∧ queuedOf (l.openFor cfg design).2.list = queuedOf l.list := by
  rcases Nat.lt_or_ge l.list.length 4 with room | full
  · rw [StackLane.openFor_room _ _ room, StackRec.opened_take]
    have not_changing : (if cfg.target = 1 then StackState.filled else .assigning) ≠ .changing := by split <;> decide
    refine ⟨⟨h.shape.opened room none_open ⟨le_rfl, fun open_ => ⟨?_, rfl⟩, nofun⟩ rfl not_changing, ?_, ?_, h.cause⟩,
      queuedOf_opened rfl⟩
    · have : cfg.target ≠ 1 := fun single => by rw [if_pos single] at open_; cases open_
      show 1 < cfg.target
      omega
    · exact h.timer.trans (changingOf_opened not_changing).symm
    · exact fun faulted => absurd (ready.symm.trans faulted) (by decide)
  · rw [StackLane.openFor_full _ _ full]
    exact ⟨h, rfl⟩

theorem closeShort_none_open (list : List StackRec) : ∀ r ∈ list.map StackRec.closeShort, r.state ≠ .assigning := by
  intro x hx
  obtain ⟨r, -, rfl⟩ := List.mem_map.1 hx
  unfold StackRec.closeShort
  split
  · exact nofun
  · next not_open => exact not_open

/-- R124 to R126: step 11. -/
theorem StackLane.assign_askable {cfg : LaneCfg} {design : Nat} (target : 1 ≤ cfg.target) (h : l.Sound)
    (ready : l.state = .ready) :
    (l.assign cfg design).2.Askable ∧ queuedOf (l.assign cfg design).2.list = queuedOf l.list := by
  have never {p : Prop} : l.state = .fault → p := fun faulted => absurd (ready.symm.trans faulted) (by decide)
  unfold StackLane.assign
  split
  · next none_found =>
    exact StackLane.openFor_askable target h.askable ready (by simpa using none_found)
  · split
    · exact h.askable.map joining_shaping _ never
    · obtain ⟨closed, queued⟩ := h.askable.map StackRec.closeShort_shaping 0 fun _ => rfl
      split
      · obtain ⟨opened, queued'⟩ := StackLane.openFor_askable target closed ready (closeShort_none_open _)
        exact ⟨opened, queued'.trans queued⟩
      · exact h.askable.map StackRec.closeShort_shaping _ never

end lane

end Sys2Proof.Machine
end

section
/-! Every move keeps the stacking unit sound, and from a sound one no command faults: O58. -/

namespace Sys2Proof.Machine

/-! ## Suspect counts do not matter -/

theorem shapely_unsuspected (list : List StackRec) :
    Shapely (list.map fun r => { r with suspect := 0 }) ↔ Shapely list := by
  constructor
  · rintro ⟨few, sound, waits, full, changing⟩
    rw [← List.map_tail] at waits
    rw [← List.map_dropLast] at full
    have mem {l : List StackRec} {r : StackRec} (hr : r ∈ l) :
        { r with suspect := 0 } ∈ l.map fun r => { r with suspect := 0 } :=
      List.mem_map_of_mem (f := fun r : StackRec => { r with suspect := 0 }) hr
    refine ⟨by simpa using few, fun r hr => sound { r with suspect := 0 } (mem hr),
      fun r hr => waits { r with suspect := 0 } (mem hr), fun r hr => full { r with suspect := 0 } (mem hr),
      fun r hr => changing { r with suspect := 0 } ?_⟩
    rw [List.head?_map, hr]
    rfl
  · exact fun h => h.map ⟨fun _ h => h, fun _ => Iff.rfl, fun _ => rfl, fun _ => id, fun _ _ _ => rfl, fun _ => rfl⟩

theorem StackLane.sound_unsuspected (l : StackLane) : l.unsuspected.Sound ↔ l.Sound := by
  have changing : changingOf l.unsuspected.list = changingOf l.list := by
    cases h : l.list <;> simp [StackLane.unsuspected, changingOf, h]
  have due : (∀ r ∈ l.unsuspected.list.head?, r.changeDue = false) ↔ ∀ r ∈ l.list.head?, r.changeDue = false := by
    cases h : l.list <;> simp [StackLane.unsuspected, h, StackRec.changeDue]
  have empty : l.unsuspected.list = [] ↔ l.list = [] := List.map_eq_nil_iff
  rw [StackLane.sound_iff, StackLane.sound_iff, due]
  refine and_congr_left fun _ => ⟨fun ⟨shape, timer, faulted, cause⟩ => ?_, fun ⟨shape, timer, faulted, cause⟩ => ?_⟩
  · exact ⟨(shapely_unsuspected _).1 shape, timer.trans changing, fun f => ⟨empty.1 (faulted f).1, (faulted f).2⟩, cause⟩
  · exact ⟨(shapely_unsuspected _).2 shape, timer.trans changing.symm, fun f => ⟨empty.2 (faulted f).1, (faulted f).2⟩,
      cause⟩

theorem queuedOf_unsuspected (l : StackLane) : queuedOf l.unsuspected.list = queuedOf l.list := by
  cases h : l.list <;> simp [StackLane.unsuspected, queuedOf, h]

theorem LaneHolds.congr {target : Nat} {items : List StackItem} {l l' : StackLane} (h : LaneHolds target items l)
    (same : l'.unsuspected = l.unsuspected) : LaneHolds target items l' where
  sound := by rw [← StackLane.sound_unsuspected, same, StackLane.sound_unsuspected]; exact h.sound
  target := h.target
  items := by rw [← queuedOf_unsuspected, same, queuedOf_unsuspected]; exact h.items

theorem State.StackingSound.of_kept {s t : State} (h : s.StackingSound) (cfg : t.stk.cfg = s.stk.cfg)
    (stack : t.sched.stack = s.sched.stack) (lanes : ∀ k, (t.lane k).unsuspected = (s.lane k).unsuspected) :
    t.StackingSound := by
  rw [State.stackingSound_iff] at h ⊢
  intro k
  have target : t.cfg k = s.cfg k := congrArg (fun v : Vector LaneCfg 8 => v[k.val]) cfg
  rw [target, stack]
  exact (h k).congr (lanes k)

theorem State.StackingSound.of_same {s t : State} (h : s.StackingSound) (stk : t.stk = s.stk)
    (stack : t.sched.stack = s.sched.stack) : t.StackingSound :=
  h.of_kept (congrArg Stacking.cfg stk) stack fun k => by rw [State.lane, State.lane, stk]

theorem Touches.stackingSound {b : Bool} {s t : State} (touches : Touches b s t) (h : s.StackingSound) : t.StackingSound := by
  refine h.of_kept touches.cfg touches.stack fun k => ?_
  have lanes := congrArg (fun u : State => u.stk.lanes[k.val]) touches.untouched
  show t.stk.lanes[k.val].unsuspected = s.stk.lanes[k.val].unsuspected
  simpa [State.untouched] using lanes

/-! ## Faults, notices and the end of an ENDING -/

theorem State.StackingSound.notify {s : State} (h : s.StackingSound) (kind : NoticeKind) (lane : Option (Fin 8)) (v : Word) :
    (s.notify kind lane v).StackingSound :=
  h.of_same rfl (s.sched.notify_frame kind lane v).2.2.1

theorem State.StackingSound.completeEnding {s : State} (h : s.StackingSound) : s.completeEnding.StackingSound := by
  unfold State.completeEnding
  split
  · exact State.StackingSound.notify (s := s.onJob fun j => { j with state := .armed, cause := .none }) h _ _ _
  · exact h

theorem StackLane.faulted_sound {cause : FaultCause} (named : cause ≠ .none) (l : StackLane) : (l.faulted cause).Sound :=
  (StackLane.sound_iff _).2 ⟨⟨.nil, rfl, fun _ => ⟨rfl, rfl⟩, ⟨nofun, fun none => absurd none named⟩⟩, nofun⟩

theorem State.StackingSound.faultedLane {s : State} (h : s.StackingSound) (k : Fin 8) {cause : FaultCause}
    (named : cause ≠ .none) : (s.faultedLane k cause).StackingSound := by
  rw [State.stackingSound_iff] at h ⊢
  intro j
  by_cases same : j = k
  · subst same
    have lane : (s.faultedLane j cause).lane j = (s.lane j).faulted cause := Vector.getElem_set_self _
    have items : (s.faultedLane j cause).sched.stack.filter (·.lane == j) = [] := by
      simp [State.faultedLane, List.filter_filter]
    rw [lane, items]
    exact ⟨StackLane.faulted_sound named _, (h j).target, rfl⟩
  · have lane : (s.faultedLane k cause).lane j = s.lane j :=
      Vector.getElem_set_ne k.isLt j.isLt fun e => same (Fin.ext e.symm)
    have items : (s.faultedLane k cause).sched.stack.filter (·.lane == j) = s.sched.stack.filter (·.lane == j) := by
      show (s.sched.stack.filter _).filter _ = _
      rw [List.filter_filter]
      refine List.filter_congr fun x _ => ?_
      by_cases hx : x.lane = j
      · simp [hx, same]
      · simp [hx]
    rw [lane, items]
    exact h j

/-! ## One lane -/

theorem State.onLane_lane (s : State) (k j : Fin 8) (f : StackLane → StackLane) :
    (s.onLane k f).lane j = if j = k then f (s.lane k) else s.lane j := by
  split
  · next same =>
    subst same
    exact s.onLane_lane_self j f
  · next other => exact modAt_ne s.stk.lanes k j f fun e => other e.symm

theorem State.StackingSound.onLane {s : State} (h : s.StackingSound) (k : Fin 8) (f : StackLane → StackLane)
    (holds : ∀ target items, LaneHolds target items (s.lane k) → LaneHolds target items (f (s.lane k))) :
    (s.onLane k f).StackingSound := by
  rw [State.stackingSound_iff] at h ⊢
  intro j
  show LaneHolds (s.cfg j).target (s.sched.stack.filter (·.lane == j)) _
  rw [State.onLane_lane]
  split
  · next same =>
    subst same
    exact holds _ _ (h j)
  · exact h j

/-- A lane that keeps its list and timer holds what it held, the gap staying 0 in FAULT. -/
theorem LaneHolds.relabelled {target : Nat} {items : List StackItem} {l l' : StackLane} (h : LaneHolds target items l)
    (list : l'.list = l.list) (timer : l'.timer.isSome = l.timer.isSome)
    (faulted : l'.state = .fault → l'.list = [] ∧ l'.gap = 0) (cause : l'.state = .ready ↔ l'.cause = .none) :
    LaneHolds target items l' where
  sound := by
    obtain ⟨⟨shape, running, -, -⟩, head⟩ := (StackLane.sound_iff l).1 h.sound
    rw [StackLane.sound_iff, list]
    exact ⟨⟨list ▸ shape, timer.trans (list ▸ running), faulted, cause⟩, head⟩
  target := h.target
  items := by rw [list]; exact h.items

theorem LaneHolds.askable {target : Nat} {items : List StackItem} {l : StackLane} (h : LaneHolds target items l) :
    l.Askable :=
  h.sound.askable

/-! ## Commits and arrivals -/

theorem State.StackingSound.decideLane {s : State} (h : s.StackingSound) (r : Record) (k : Fin 8) :
    (s.decideLane r k).2.StackingSound := by
  rcases s.decideLane_cases r k with ⟨_, _, -, decided⟩ | ⟨-, -, decided⟩ | ⟨passed, -, answer, l, assigned, decided⟩
  · rw [decided]
    exact h
  · rw [decided]
    refine h.onLane k _ fun target items holds => holds.relabelled rfl rfl (fun faulted => ?_) holds.askable.cause
    obtain ⟨empty, gap⟩ := holds.askable.faulted faulted
    exact ⟨empty, by show (s.lane k).gap - 1 = 0; rw [gap]⟩
  · have ready : (s.lane k).state = .ready := by
      rcases s.firstNineSteps_cases r k with ⟨_, _, early, -⟩ | ⟨-, -, -, -, ready⟩
      · rw [passed] at early
        cases early
      · exact ready
    rw [decided]
    refine h.asked k (fun _ => l) fun sound => ?_
    have askable := StackLane.assign_askable (design := r.design) ((State.stackingSound_iff s).1 h k).target sound ready
    rw [assigned] at askable
    exact askable

theorem State.gateLabel_stack (serial cutLine labelEnd : Word) (k : Fin 8) (s : State) :
    (s.gateLabel serial cutLine labelEnd k).sched.stack = s.sched.stack := by
  unfold State.gateLabel State.onSched
  dsimp only
  split <;> rfl

theorem State.StackingSound.commitLane {s : State} (h : s.StackingSound) (r : Record) (cutLine labelEnd : Word)
    (k : Fin 8) : (s.commitLane r cutLine labelEnd k).StackingSound := by
  have recorded : (s.recordedLane r k).StackingSound := (h.decideLane r k).of_same rfl rfl
  rcases (s.decideLane r k).1.outcome.counter_cases with stacked | ⟨which, charged⟩
  · rw [s.commitLane_stack r cutLine labelEnd k stacked]
    exact recorded
  · rw [s.commitLane_charged r cutLine labelEnd k charged]
    exact recorded.of_same rfl (State.gateLabel_stack ..)

/-- What every step of a fold keeps, the fold keeps. -/
theorem foldl_keeps {σ α : Type} {P : σ → Prop} {f : σ → α → σ} (step : ∀ s a, P s → P (f s a)) (l : List α) {s : σ}
    (h : P s) : P (l.foldl f s) := by
  induction l generalizing s with
  | nil => exact h
  | cons a l ih => exact ih (step s a h)

theorem State.StackingSound.lateGateCharge {s : State} (h : s.StackingSound) (r : Record) (k : Fin 8) :
    (s.lateGateCharge r k).StackingSound := by
  have pruned : (s.onLateGates k (pruneRanges r.serial)).StackingSound := h.of_same rfl rfl
  rw [State.lateGateCharge_eq]
  split
  · have informed := Touches.stackingSound (.single (Touch.informed true _ r k .lateGate)) pruned
    exact informed.of_same rfl rfl
  · exact pruned

theorem StackLane.land_faulted (l : StackLane) (n : Nat) (cause : FaultCause) :
    (l.land n).faulted cause = l.faulted cause :=
  rfl

theorem State.StackingSound.landLabel {s : State} (h : s.StackingSound) (k : Fin 8) (n : Nat) :
    (s.landLabel k n).2.StackingSound := by
  rcases s.landLabel_cases k n with ⟨landing, -⟩ | ⟨landing, -⟩ | ⟨landing, -⟩
  · rw [landing]
    exact h
  · have overrun : ((s.onLane k (·.land n)).faultedLane k .holdOverrun) = s.faultedLane k .holdOverrun := by
      unfold State.faultedLane
      rw [s.onLane_lane_self k, StackLane.land_faulted]
      simp [State.onLane, State.onStk, modAt]
    rw [landing]
    show ((s.onLane k (·.land n)).faultLane k .holdOverrun).StackingSound
    rw [State.faultLane_eq]
    have faulted := h.faultedLane k (cause := .holdOverrun) (by decide)
    rw [← overrun] at faulted
    exact (faulted.notify _ _ _).completeEnding
  · rw [landing]
    exact h.asked k _ (StackLane.land_askable n)

theorem State.StackingSound.arriveLane {s : State} (h : s.StackingSound) (r : Record) (k : Fin 8) :
    (s.arriveLane r k).StackingSound := by
  by_cases stacked : r.lanes[k.val].outcome = some .stack
  · rw [s.arriveLane_stack k stacked]
    exact (h.landLabel k _).of_same rfl rfl
  · rw [s.arriveLane_other k stacked]
    exact h

theorem State.StackingSound.arrived {s : State} (h : s.StackingSound) (r : Record) : (s.arrived r).StackingSound :=
  foldl_keeps (P := State.StackingSound) (fun _ k h => State.StackingSound.arriveLane h r k) _
    (foldl_keeps (P := State.StackingSound) (fun _ k h => State.StackingSound.lateGateCharge h r k) _ h)

/-! ## Creation and the tail -/

theorem State.countSlip_stack (s : State) : s.countSlip.sched.stack = s.sched.stack := by
  rw [State.countSlip_eq]
  show (s.withSlipNotice s.sched).stack = s.sched.stack
  unfold State.withSlipNotice
  split
  · exact (s.sched.notify_frame _ _ _).2.2.1
  · rfl

theorem State.StackingSound.createRecord {s : State} (h : s.StackingSound) (anchor : Word) (origin : Origin)
    (cls : RegState) : (s.createRecord anchor origin cls).StackingSound := by
  obtain ⟨-, -, stk, -, -, -, -, sched⟩ := s.createRecord_kept anchor origin cls
  have touches := s.withNext_touches anchor origin cls
  have stack := s.countSlip_stack
  have queued : (s.countSlip.queued (s.nextRecord anchor origin cls)).StackingSound :=
    h.of_same (by rw [State.countSlip_eq]; rfl) stack
  refine (touches.stackingSound queued).of_same stk ?_
  exact (congrArg Scheduler.stack sched :).trans (touches.stack.trans stack).symm

end Sys2Proof.Machine
end

section
/-! No move leaves the stacking unit unsound, and from a sound one no command faults: O58. -/

namespace Sys2Proof.Machine

/-! ## The STACK queue -/

theorem queuedOf_length_le (list : List StackRec) : (queuedOf list).length ≤ 1 := by
  cases list with
  | nil => exact Nat.zero_le _
  | cons r rest =>
    show (if _ then _ else _ : List Nat).length ≤ 1
    split
    · exact le_rfl
    · exact Nat.zero_le _

/-- R130, R146: the head of the STACK queue is the only item of its lane, and names the lane's oldest stack. -/
theorem State.StackingSound.head {s : State} (h : s.StackingSound) {x : StackItem} {rest : List StackItem}
    (head : s.sched.stack = x :: rest) :
    queuedOf (s.lane x.lane).list = [x.number] ∧ rest.filter (·.lane == x.lane) = [] := by
  rw [State.stackingSound_iff] at h
  have items := (h x.lane).items
  rw [head, List.filter_cons_of_pos (by simp), List.map_cons] at items
  have few := queuedOf_length_le (s.lane x.lane).list
  have none : rest.filter (·.lane == x.lane) = [] := by
    rw [← items, List.length_cons, List.length_map] at few
    exact List.length_eq_zero_iff.1 (by omega)
  exact ⟨by rw [← items, none]; rfl, none⟩

/-- R131, R146: the STACK item sent, its record CHANGING and the timer started. -/
theorem State.StackingSound.sent {s : State} (h : s.StackingSound) {x : StackItem} {rest : List StackItem}
    (head : s.sched.stack = x :: rest) (timer : ChangeTimer) :
    (({ s with sched := { s.sched with stack := rest } } : State).onLane x.lane fun l =>
      { l with list := changeFirst x.number l.list, timer := some timer }).StackingSound := by
  obtain ⟨named, none⟩ := h.head head
  rw [State.stackingSound_iff] at h ⊢
  intro j
  rw [State.onLane_lane]
  show LaneHolds (s.cfg j).target (rest.filter (·.lane == j)) _
  split
  · next same =>
    subst same
    obtain ⟨shape, queued, changing, not_due, r, hr, -⟩ := (h x.lane).askable.shape.changed named
    have ready := (h x.lane).askable.not_faulted (List.ne_nil_of_mem hr)
    refine ⟨(StackLane.sound_iff _).2 ⟨⟨shape, changing.symm, fun faulted => absurd faulted ready, ?_⟩, not_due⟩,
      (h x.lane).target, ?_⟩
    · exact (h x.lane).askable.cause
    · rw [none]
      exact queued.symm
  · next other =>
    have items : rest.filter (·.lane == j) = s.sched.stack.filter (·.lane == j) := by
      rw [head, List.filter_cons_of_neg (by simpa using fun e : x.lane = j => other e.symm)]
    rw [items]
    exact h j

/-! ## Every move -/

theorem StackLane.powerOn_sound : StackLane.powerOn.Sound :=
  (StackLane.sound_iff _).2 ⟨⟨.nil, rfl, nofun, by decide⟩, nofun⟩

theorem State.StackingSound.of_powerOn {s : State} (target : ∀ k, 1 ≤ (s.cfg k).target) (stack : s.sched.stack = [])
    (lanes : ∀ k, s.lane k = .powerOn) : s.StackingSound := by
  rw [State.stackingSound_iff]
  intro k
  rw [lanes, stack]
  exact ⟨StackLane.powerOn_sound, target k, rfl⟩

theorem State.powerOn_stackingSound (straps : BitVec 6) : (State.powerOn straps).StackingSound :=
  .of_powerOn (fun k => by
    show 1 ≤ ((Vector.replicate 8 LaneCfg.powerOn)[k.val]).target
    rw [Vector.getElem_replicate]
    decide) rfl fun k => Vector.getElem_replicate ..

theorem State.StackingSound.closeTail {s : State} (h : s.StackingSound) : s.closeTail.StackingSound := by
  unfold State.closeTail
  split
  · exact h
  · next r _ => exact Touches.stackingSound (State.closeRecord_touches _ _ _) (h.of_same rfl rfl)

theorem State.StackingSound.cleared {s : State} (h : s.StackingSound) : s.cleared.StackingSound := by
  rw [State.stackingSound_iff] at h ⊢
  intro k
  have lane : s.cleared.lane k = { s.lane k with list := [], timer := none, gap := 0 } := Vector.getElem_map ..
  rw [lane]
  exact ⟨(StackLane.sound_iff _).2 ⟨⟨.nil, rfl, fun _ => ⟨rfl, rfl⟩, (h k).askable.cause⟩, nofun⟩, (h k).target, rfl⟩

/-- Every move keeps the stacking unit sound. -/
theorem Move.stackingSound {κ : Kind} {s t : State} (move : Move κ s t) (h : s.StackingSound) : t.StackingSound := by
  cases move with
  | touch touch => exact Touches.stackingSound (.single touch) h
  | tally same =>
    have lanes : t.stk.lanes = s.stk.lanes := (congrArg (·.stk.lanes) same :)
    exact h.of_kept (congrArg (·.stk.cfg) same :) (congrArg (·.sched.stack) same :) fun k => by
      rw [State.lane, State.lane, lanes]
  | commit r _ _ cutLine labelEnd _ _ _ _ _ room =>
    rw [State.commit_passes room]
    exact foldl_keeps (P := State.StackingSound)
      (fun _ k h => State.StackingSound.commitLane h r cutLine labelEnd k) _ h
  | retire r _ _ _ _ => exact (h.arrived r).of_same rfl rfl
  | close _ _ =>
    rw [State.closedLanes_eq]
    exact h.allAsked StackLane.closedAtEnd (fun _ => StackLane.closedAtEnd_askable) (fun _ => rfl)
      (fun k => Vector.getElem_ofFn ..) rfl
  | fault k cause named => exact h.faultedLane k named
  | change k n named => exact h.asked k _ fun sound => StackLane.released_askable sound named
  | short k gap assigning =>
    refine h.asked k _ fun sound => sound.askable.map StackRec.closeShort_shaping gap fun faulted => ?_
    obtain ⟨empty, -⟩ := sound.askable.faulted faulted
    rw [empty] at assigning
    cases assigning
  | enable k faulted =>
    exact h.onLane k _ fun target items holds => holds.relabelled rfl rfl nofun (by simp)
  | gateLate => exact h.of_same rfl rfl
  | stack x rest head => exact h.sent head _
  | credits => exact h.of_same rfl s.sched.choose_frame.2.2.1
  | frame =>
    rw [State.stackingSound_iff] at h ⊢
    intro k
    have lane : s.countFrame.lane k = { s.lane k with timer := (s.lane k).timer.map fun t =>
      { t with count := t.count + 1 } } := Vector.getElem_map ..
    rw [lane]
    exact (h k).relabelled rfl Option.isSome_map (h k).askable.faulted (h k).askable.cause
  | create anchor origin cls emptied _ _ _ =>
    cases emptied with
    | false => exact h.createRecord anchor origin cls
    | true => exact State.StackingSound.createRecord (s := s.clearRing) h anchor origin cls
  | hold cause runs _ =>
    rw [State.enterHold_eq s cause runs]
    exact h.allAsked StackLane.settled (fun _ => StackLane.settled_askable) (fun _ => rfl)
      (fun k => Vector.getElem_ofFn ..) rfl
  | clear idle => exact h.cleared
  | ends run => exact h.closeTail
  | lane cfg ranged =>
    have targets := ranged fun k => (h k).2.1
    rw [State.stackingSound_iff] at h ⊢
    exact fun k => ⟨(h k).sound, targets k, (h k).items⟩
  | soft => exact .of_powerOn (fun k => (h k).2.1) rfl fun k => Vector.getElem_replicate ..
  | power straps => exact State.powerOn_stackingSound straps
  | _ => exact h

/-! ## No fault -/

theorem State.sendChosen_next {s : State} (h : s.StackingSound) (place : Nat) : ∃ t, s.sendChosen place = .next t := by
  unfold State.sendChosen
  dsimp only
  split
  · exact ⟨_, rfl⟩
  · next x rest _ head =>
    obtain ⟨named, -⟩ := h.head head
    obtain ⟨-, -, -, -, r, hr, number⟩ := ((State.stackingSound_iff s).1 h x.lane).askable.shape.changed named
    split
    · exact ⟨_, rfl⟩
    · next none_found => exact absurd (List.find?_eq_none.1 none_found r hr) (by simp [number])
  · exact ⟨_, rfl⟩
  · exact ⟨_, rfl⟩

theorem State.offer_next {s : State} (h : s.StackingSound) (place : Nat) : ∃ t, s.offer place = .next t := by
  have dropped := (Path.dropLateHeads s s.sched.knife).keeps (fun _ _ _ _ => Move.stackingSound) h
  unfold State.offer
  dsimp only
  split
  · exact ⟨_, rfl⟩
  · exact State.sendChosen_next dropped place

theorem exec_next {s : State} (h : s.StackingSound) (c : Instr) : ∃ t, exec c s = .next t := by
  rcases exec_outcome c s with next | ⟨slot, rfl, -⟩
  · exact next
  · by_cases used : s.addressed = true
    · rw [exec_offer slot s used]
      exact State.offer_next h _
    · exact ⟨s, if_neg used⟩

/-- Settles O58: every move keeps the unit sound; and in a sound unit the STACK item offered names its lane's oldest
stack, so that no offer finds an orphan. -/
theorem stackingStaysSound : Obligations.StackingStaysSound := by
  intro s h
  have next : ∃ t, step s = .next t := by
    unfold step
    split
    · exact ⟨_, rfl⟩
    · next c rest _ => exact exec_next (s := { s with pending := rest }) h c
  obtain ⟨t, stepped⟩ := next
  exact ⟨t, stepped, step_keeps (fun _ _ h => h) (fun _ _ _ => Move.stackingSound) stepped h⟩

end Sys2Proof.Machine
end

section
/-! The shape of the repeat queue (R41, R43, R45, R47, R49, R56, R59), in parts that the moves keep. -/

namespace Sys2Proof.Machine

/-! ## The links between records -/

/-- What holds between the records of a queue whose next serial this is: consecutive serials, extents that meet, no tail
but the youngest, and commits in order. -/
structure Linked (next : Word) (q : List Record) : Prop where
  serials : (q.map (·.serial) ++ [next]).IsChain fun a b => a + 1#32 = b
  meet : q.IsChain fun a b => a.nominalEnd = some b.nominalStart
  tails : ∀ r ∈ q.dropLast, r.tail = false
  commits : q.Pairwise fun a b => b.commit = .committed → a.commit = .committed

theorem Linked.nil (next : Word) : Linked next [] :=
  ⟨List.isChain_singleton _, List.isChain_nil, by simp, List.Pairwise.nil⟩

section linked
variable {next : Word} {older younger : List Record} {r x : Record}

theorem Linked.tail (h : Linked next (r :: younger)) : Linked next younger where
  serials := h.serials.tail
  meet := h.meet.tail
  tails y hy := h.tails y (by cases younger with
    | nil => cases hy
    | cons z zs => exact List.mem_cons_of_mem _ hy)
  commits := h.commits.tail

/-- A record replaced by one of its serial and start, of its end and tail flag where it is not the youngest, and
committed anew only behind committed ones. -/
theorem Linked.replaced (h : Linked next (older ++ r :: younger)) (serial : x.serial = r.serial)
    (start : x.nominalStart = r.nominalStart)
    (inner : younger ≠ [] → x.nominalEnd = r.nominalEnd ∧ x.tail = r.tail)
    (commit : x.commit = r.commit ∨ x.commit = .committed ∧ ∀ y ∈ older, y.commit = .committed) :
    Linked next (older ++ x :: younger) := by
  obtain ⟨serials, meet, tails, commits⟩ := h
  refine ⟨?_, ?_, ?_, ?_⟩
  · simpa [serial] using serials
  · rw [List.isChain_append] at meet ⊢
    obtain ⟨below, above, joint⟩ := meet
    refine ⟨below, ?_, fun a ha b hb => ?_⟩
    · cases younger with
      | nil => exact List.isChain_singleton _
      | cons y ys =>
        rw [List.isChain_cons_cons] at above ⊢
        exact ⟨(inner (List.cons_ne_nil _ _)).1.trans above.1, above.2⟩
    · cases hb
      rw [start]
      exact joint a ha r rfl
  · cases younger with
    | nil => simpa using tails
    | cons y ys =>
      have tail := (inner (List.cons_ne_nil _ _)).2
      simp only [List.dropLast_append_cons, List.dropLast_cons_cons, List.mem_append, List.mem_cons] at tails ⊢
      rintro z (hz | rfl | hz)
      · exact tails z (.inl hz)
      · exact tail.trans (tails r (.inr (.inl rfl)))
      · exact tails z (.inr (.inr hz))
  · rw [List.pairwise_append, List.pairwise_cons] at commits ⊢
    obtain ⟨below, ⟨from_r, above⟩, across⟩ := commits
    refine ⟨below, ⟨fun y hy committed => ?_, above⟩, fun y hy z hz committed => ?_⟩
    · rcases commit with same | ⟨done, -⟩
      · exact same.trans (from_r y hy committed)
      · exact done
    · rcases List.mem_cons.1 hz with rfl | hz
      · rcases commit with same | ⟨-, first⟩
        · exact across y hy r (by simp) (same.symm.trans committed)
        · exact first y hy
      · exact across y hy z (List.mem_cons_of_mem _ hz) committed

theorem Linked.appended {q : List Record} (h : Linked next q) (serial : x.serial = next) (open_ : x.commit = .uncommitted)
    (youngest : ∀ r ∈ q.getLast?, r.nominalEnd = some x.nominalStart ∧ r.tail = false) :
    Linked (next + 1#32) (q ++ [x]) where
  serials := by
    have chain := h.serials
    rw [List.map_append, List.map_singleton, serial]
    exact chain.append (List.isChain_singleton _) fun a ha b hb => by
      rw [List.getLast?_concat] at ha
      cases ha
      cases hb
      rfl
  meet := h.meet.append (List.isChain_singleton _) fun a ha b hb => by
    cases hb
    exact (youngest a ha).1
  tails := by
    rw [List.dropLast_concat]
    intro y hy
    rcases List.eq_nil_or_concat' q with rfl | ⟨older, last, rfl⟩
    · cases hy
    · have tails := h.tails
      rw [List.dropLast_concat] at tails
      rcases List.mem_append.1 hy with hy | hy
      · exact tails y hy
      · rw [List.mem_singleton.1 hy]
        exact (youngest last List.getLast?_concat).2
  commits := by
    rw [List.pairwise_append]
    refine ⟨h.commits, List.pairwise_singleton _ _, fun a _ b hb committed => ?_⟩
    rw [List.mem_singleton.1 hb, open_] at committed
    cases committed

end linked

/-! ## Serials -/

theorem serials_ahead {a : Word} {l : List Word} (chain : (a :: l).IsChain fun a b => a + 1#32 = b)
    (few : l.length < 4294967296) : ∀ b ∈ l, 1 ≤ (b - a).toNat ∧ (b - a).toNat ≤ l.length := by
  induction l generalizing a with
  | nil => simp
  | cons c l ih =>
    rw [List.isChain_cons_cons] at chain
    obtain ⟨rfl, chain⟩ := chain
    rw [List.length_cons] at few
    intro b hb
    rcases List.mem_cons.1 hb with rfl | hb
    · have one : a + 1#32 - a = 1#32 := by bv_omega
      rw [one]
      exact ⟨le_rfl, Nat.succ_le_succ (Nat.zero_le _)⟩
    · obtain ⟨-, far⟩ := ih chain (by omega) b hb
      have step : b - a = (b - (a + 1#32)) + 1#32 := by bv_omega
      rw [step, BitVec.toNat_add, List.length_cons]
      change 1 ≤ (_ + 1) % 4294967296 ∧ (_ + 1) % 4294967296 ≤ _
      omega

/-- R41, R45: serials that run consecutively stand apart while there are fewer than 2^32. -/
theorem serials_nodup {l : List Word} (chain : l.IsChain fun a b => a + 1#32 = b) (few : l.length ≤ 4294967296) :
    l.Nodup := by
  induction l with
  | nil => exact List.nodup_nil
  | cons a l ih =>
    rw [List.length_cons] at few
    refine List.nodup_cons.2 ⟨fun again => ?_, ih chain.tail (by omega)⟩
    have := serials_ahead chain (by omega) a again
    simp at this

/-! ## The shape -/

/-- `State.QueueShape` of the fields that it reads. -/
structure Shaped (state : JobState) (job : JobRec) (next : Word) (q : List Record) : Prop where
  few : q.length ≤ 256
  idles : state = .run ∨ state = .ending ∨ q = []
  linked : Linked next q
  youngest : ∀ r ∈ q.getLast?, (state = .run → r.nominalEnd = none ∧ r.tail = false)
    ∧ (state = .ending → r.nominalEnd = some (shift r.nominalStart job.pitch) ∧ r.tail = true)
  decided : ∀ r ∈ q, ∀ k : Fin 8, r.LaneDecided job.lanes k

theorem State.queueShape_iff (s : State) :
    s.QueueShape ↔ Shaped s.job.state s.job.job s.track.nextSerial s.track.queue :=
  ⟨fun ⟨few, idles, serials, ⟨meet, tails⟩, youngest, commits, decided⟩ =>
      ⟨few, idles, ⟨serials, meet, tails, commits⟩, youngest, decided⟩,
    fun ⟨few, idles, ⟨serials, meet, tails, commits⟩, youngest, decided⟩ =>
      ⟨few, idles, serials, ⟨meet, tails⟩, youngest, commits, decided⟩⟩

theorem Shaped.of_empty (state : JobState) (job : JobRec) (next : Word) : Shaped state job next [] :=
  ⟨Nat.zero_le _, .inr (.inr rfl), .nil next, by simp, by simp⟩

section shaped
variable {state : JobState} {job : JobRec} {next : Word} {q q' older younger : List Record} {r x : Record}

theorem Linked.unmarked_iff : Linked next (q.map Record.unmarked) ↔ Linked next q := by
  have tails : (∀ x ∈ (q.map Record.unmarked).dropLast, x.tail = false) ↔ ∀ x ∈ q.dropLast, x.tail = false := by
    rw [← List.map_dropLast, List.forall_mem_map]
    rfl
  constructor
  · rintro ⟨serials, meet, none, commits⟩
    rw [List.map_map] at serials
    exact ⟨serials, (List.isChain_map _).1 meet, tails.1 none, List.pairwise_map.1 commits⟩
  · rintro ⟨serials, meet, none, commits⟩
    refine ⟨?_, (List.isChain_map _).2 meet, tails.2 none, List.pairwise_map.2 commits⟩
    rw [List.map_map]
    exact serials

theorem Record.laneDecided_unmarked (r : Record) (lanes : Nat) (k : Fin 8) :
    r.unmarked.LaneDecided lanes k ↔ r.LaneDecided lanes k := by
  have lane : r.unmarked.lanes[k.val] = { r.lanes[k.val] with defect := false, splice := false } := Vector.getElem_map ..
  rw [Record.LaneDecided, lane]
  rfl

theorem Shaped.unmarked_iff : Shaped state job next (q.map Record.unmarked) ↔ Shaped state job next q := by
  constructor
  · rintro ⟨few, idles, linked, youngest, decided⟩
    refine ⟨by simpa using few, idles.imp id (Or.imp id List.map_eq_nil_iff.1), Linked.unmarked_iff.1 linked, ?_, ?_⟩
    · rw [List.getLast?_map] at youngest
      exact fun r hr => youngest r.unmarked (Option.mem_map_of_mem _ hr)
    · exact fun r hr k => (r.laneDecided_unmarked _ k).1 (decided _ (List.mem_map_of_mem hr) k)
  · rintro ⟨few, idles, linked, youngest, decided⟩
    refine ⟨by simpa using few, idles.imp id (Or.imp id fun h => by rw [h]; rfl), Linked.unmarked_iff.2 linked,
      fun x hx => ?_, fun x hx k => ?_⟩
    · rw [List.getLast?_map] at hx
      obtain ⟨r, hr, rfl⟩ := Option.mem_map.1 hx
      exact youngest r hr
    · obtain ⟨r, hr, rfl⟩ := List.mem_map.1 hx
      exact (r.laneDecided_unmarked _ k).2 (decided r hr k)

theorem Shaped.of_unmarked (h : Shaped state job next q) (same : q'.map Record.unmarked = q.map Record.unmarked) :
    Shaped state job next q' :=
  Shaped.unmarked_iff.1 (same ▸ Shaped.unmarked_iff.2 h)

theorem Shaped.empty (h : Shaped state job next q) (run : state ≠ .run) (ending : state ≠ .ending) : q = [] :=
  (h.idles.resolve_left run).resolve_left ending

theorem Shaped.serials_nodup (h : Shaped state job next q) : (q.map (·.serial) ++ [next]).Nodup := by
  have few := h.few
  exact Machine.serials_nodup h.linked.serials (by simp; omega)

theorem Shaped.tail (h : Shaped state job next (r :: younger)) : Shaped state job next younger where
  few := Nat.le_of_succ_le h.few
  idles := h.idles.imp id (Or.imp id nofun)
  linked := h.linked.tail
  youngest x hx := h.youngest x (by
    cases younger with
    | nil => cases hx
    | cons y ys => exact hx)
  decided x hx := h.decided x (List.mem_cons_of_mem _ hx)

/-- R56, R105: a record committed behind committed ones, with its lanes decided. -/
theorem Shaped.committed (h : Shaped state job next (older ++ r :: younger)) (lanes : Vector LaneEntry 8)
    (first : ∀ y ∈ older, y.commit = .committed)
    (decided : ∀ k : Fin 8, Record.LaneDecided job.lanes { r with lanes, commit := .committed } k) :
    Shaped state job next (older ++ { r with lanes, commit := .committed } :: younger) where
  few := by simpa using h.few
  idles := h.idles.imp id (Or.imp id (by simp))
  linked := h.linked.replaced rfl rfl (fun _ => ⟨rfl, rfl⟩) (.inr ⟨rfl, first⟩)
  youngest x hx := by
    have youngest := h.youngest
    cases younger with
    | nil =>
      rw [List.getLast?_concat] at hx youngest
      cases hx
      exact youngest r rfl
    | cons y ys =>
      rw [List.getLast?_append_cons, List.getLast?_cons_cons] at hx youngest
      exact youngest x hx
  decided x hx := by
    have before := h.decided
    simp only [List.mem_append, List.mem_cons] at hx before
    rcases hx with hx | rfl | hx
    · exact before x (.inl hx)
    · exact decided
    · exact before x (.inr (.inr hx))

/-- R59: the youngest record becomes the closed tail. -/
theorem Shaped.ended (h : Shaped .run job next (older ++ [r])) : Shaped .ending job next
    (older ++ [{ r with tail := true, nominalEnd := some (shift r.nominalStart job.pitch) }]) where
  few := by simpa using h.few
  idles := .inr (.inl rfl)
  linked := h.linked.replaced rfl rfl (fun none => absurd rfl none) (.inl rfl)
  youngest x hx := by
    rw [List.getLast?_concat] at hx
    cases hx
    exact ⟨nofun, fun _ => ⟨rfl, rfl⟩⟩
  decided x hx := by
    have before := h.decided
    simp only [List.mem_append, List.mem_singleton] at hx before
    rcases hx with hx | rfl
    · exact before x (.inl hx)
    · exact before r (.inr rfl)

/-- R46: the first record of a queue. -/
theorem Shaped.first (serial : x.serial = next) (fresh : x.commit = .uncommitted)
    (open_ : x.nominalEnd = none ∧ x.tail = false) (decided : ∀ k : Fin 8, x.LaneDecided job.lanes k) :
    Shaped .run job (next + 1#32) [x] where
  few := by simp
  idles := .inl rfl
  linked := (Linked.nil next).appended serial fresh nofun
  youngest y hy := by
    cases hy
    exact ⟨fun _ => open_, nofun⟩
  decided y hy := by
    rw [List.mem_singleton.1 hy]
    exact decided

/-- R46, R47: a record behind the youngest, which closes where the new one starts. -/
theorem Shaped.appended (h : Shaped .run job next (older ++ [r])) (room : (older ++ [r]).length < 256)
    (serial : x.serial = next) (fresh : x.commit = .uncommitted) (open_ : x.nominalEnd = none ∧ x.tail = false)
    (decided : ∀ k : Fin 8, x.LaneDecided job.lanes k) :
    Shaped .run job (next + 1#32) (older ++ [{ r with nominalEnd := some x.nominalStart }] ++ [x]) where
  few := by
    simp at room ⊢
    omega
  idles := .inl rfl
  linked := by
    have closed : Linked next (older ++ [{ r with nominalEnd := some x.nominalStart }]) :=
      h.linked.replaced rfl rfl (fun none => absurd rfl none) (.inl rfl)
    refine closed.appended serial fresh fun y hy => ?_
    rw [List.getLast?_concat] at hy
    cases hy
    exact ⟨rfl, ((h.youngest r List.getLast?_concat).1 rfl).2⟩
  youngest y hy := by
    rw [List.getLast?_concat] at hy
    cases hy
    exact ⟨fun _ => open_, nofun⟩
  decided y hy := by
    have before := h.decided
    simp only [List.mem_append, List.mem_singleton] at hy before
    rcases hy with (hy | rfl) | rfl
    · exact before y (.inl hy)
    · exact before r (.inr rfl)
    · exact decided

end shaped

end Sys2Proof.Machine
end

section
/-! Every move keeps the shape of the repeat queue: O55. -/

namespace Sys2Proof.Machine

section shape
variable {s t : State}

theorem State.QueueShape.of_unmarked (h : s.QueueShape) (job : t.job = s.job)
    (next : t.track.nextSerial = s.track.nextSerial)
    (queue : t.track.queue.map Record.unmarked = s.track.queue.map Record.unmarked) : t.QueueShape := by
  rw [State.queueShape_iff] at h ⊢
  rw [job, next]
  exact h.of_unmarked queue

theorem State.QueueShape.of_same (h : s.QueueShape) (job : t.job = s.job) (track : t.track = s.track) : t.QueueShape :=
  h.of_unmarked job (congrArg (·.nextSerial) track) (congrArg (·.queue.map Record.unmarked) track)

theorem State.QueueShape.of_empty (empty : s.track.queue = []) : s.QueueShape := by
  rw [State.queueShape_iff, empty]
  exact .of_empty _ _ _

theorem State.QueueShape.empty (h : s.QueueShape) (run : s.job.state ≠ .run) (ending : s.job.state ≠ .ending) :
    s.track.queue = [] :=
  ((State.queueShape_iff s).1 h).empty run ending

/-- Where no record stands, none stands whatever the job's state becomes. -/
theorem State.QueueShape.of_idle (h : s.QueueShape) (run : s.job.state ≠ .run) (ending : s.job.state ≠ .ending)
    (queue : t.track.queue = s.track.queue) : t.QueueShape :=
  .of_empty (queue.trans (h.empty run ending))

theorem State.QueueShape.serialsApart (h : s.QueueShape) : s.SerialsApart :=
  (List.nodup_append.1 ((State.queueShape_iff s).1 h).serials_nodup).1

/-! ## Closing -/

/-- R47: beyond the end of the record, a closing makes touches that close nothing. -/
theorem State.closeRecord_closed (r : Record) (stop : Word) (s : State) :
    Touches false (s.onRecord r.serial fun x => { x with nominalEnd := some stop }) (s.closeRecord r stop) := by
  have swept := Touches.foldl (b := false) (fun s z => s.closingZone r.serial r.nominalStart stop z)
    (s.onRecord r.serial fun x => { x with nominalEnd := some stop }).track.zones
    (fun s z _ => s.closingZone_touches false _ _ _ z) (s.onRecord r.serial fun x => { x with nominalEnd := some stop })
  exact swept.tail (.zones false _ _ _ _ fun h => (List.length_filter_le _ _).trans h)

theorem State.closeRecord_unmarked (apart : s.SerialsApart) {older younger : List Record} {r : Record}
    (hq : s.track.queue = older ++ r :: younger) (stop : Word) :
    (s.closeRecord r stop).track.queue.map Record.unmarked
      = (older ++ { r with nominalEnd := some stop } :: younger).map Record.unmarked := by
  rw [(s.closeRecord_closed r stop).unmarked, s.onRecord_of_serialsApart _ older younger r hq apart]

/-! ## Creation -/

theorem State.nextRecord_decided (anchor : Word) (origin : Origin) (cls : RegState) (lanes : Nat) (k : Fin 8) :
    (s.nextRecord anchor origin cls).LaneDecided lanes k := by
  have lane : (s.nextRecord anchor origin cls).lanes[k.val]
      = { defect := false, splice := false, override := none, outcome := none, stackRef := none } :=
    Vector.getElem_replicate ..
  rw [Record.LaneDecided, lane]
  exact ⟨fun _ => ⟨rfl, rfl, rfl⟩, fun ⟨committed, _⟩ => (by cases committed), ⟨nofun, nofun⟩⟩

/-- R46, R47: a record that joins keeps the shape. -/
theorem State.joinedBy_shape (h : s.QueueShape) (run : s.job.state = .run) (room : s.track.queue.length < 256)
    {x : Record} (serial : x.serial = s.track.nextSerial) (fresh : x.commit = .uncommitted)
    (open_ : x.nominalEnd = none ∧ x.tail = false) (decided : ∀ k : Fin 8, x.LaneDecided s.job.job.lanes k) :
    (s.joinedBy x).QueueShape := by
  have touches := s.joinedBy_touches x
  rw [State.queueShape_iff] at h ⊢
  rw [touches.job, touches.nextSerial]
  rw [run] at h
  show Shaped s.job.state s.job.job (s.track.nextSerial + 1#32) _
  rw [run]
  rcases List.eq_nil_or_concat' s.track.queue with empty | ⟨older, young, hq⟩
  · rw [State.joinedBy_of_empty empty]
    show Shaped .run s.job.job (s.track.nextSerial + 1#32) (s.track.queue ++ [x])
    rw [empty]
    exact .first serial fresh open_ decided
  · have apart : (s.queued x).SerialsApart := by
      show ((s.track.queue ++ [x]).map (·.serial)).Nodup
      rw [List.map_append, List.map_singleton, serial]
      exact h.serials_nodup
    have queue : (s.queued x).track.queue = older ++ young :: [x] := by
      show s.track.queue ++ [x] = _
      rw [hq, List.append_assoc]
      rfl
    have last : s.track.queue.getLast? = some young := by rw [hq, List.getLast?_concat]
    rw [State.joinedBy_of_last last]
    rw [hq] at h room
    refine (h.appended room serial fresh open_ decided).of_unmarked ?_
    rw [State.closeRecord_unmarked apart queue, List.append_assoc]
    rfl

theorem State.createRecord_shape (h : s.QueueShape) (run : s.job.state = .run) (room : s.track.queue.length < 256)
    (anchor : Word) (origin : Origin) (cls : RegState) : (s.createRecord anchor origin cls).QueueShape := by
  have counted : s.countSlip.QueueShape := by
    refine h.of_same ?_ ?_
    · rw [State.countSlip_eq]
    · rw [State.countSlip_eq]
  obtain ⟨track, -, -, -, -, job, -⟩ := s.createRecord_kept anchor origin cls
  have slip : s.countSlip.job = s.job ∧ s.countSlip.track = s.track := by
    rw [State.countSlip_eq]
    exact ⟨rfl, rfl⟩
  have joined : (s.withNext anchor origin cls).QueueShape :=
    State.joinedBy_shape counted (by rw [slip.1]; exact run) (by rw [slip.2]; exact room)
      (by rw [slip.2]; rfl) rfl ⟨rfl, rfl⟩ (State.nextRecord_decided anchor origin cls _)
  refine joined.of_same (job.trans ?_) track
  exact ((s.withNext_touches anchor origin cls).job.trans slip.1).symm

/-! ## Commit and tail -/

/-- R105: each lane in use is decided, and no other. -/
theorem State.commit_decided {r : Record} (hr : r ∈ s.track.queue) (cutLine labelEnd : Word) {g : Record → Record}
    (hg : (s.commitLanes r cutLine labelEnd s.lanesInUse).track = (s.onRecord r.serial g).track)
    (others : ∀ j ∉ s.lanesInUse, (g r).lanes[j.val] = r.lanes[j.val]) (open_ : r.commit = .uncommitted)
    (before : ∀ k : Fin 8, r.LaneDecided s.job.job.lanes k) (k : Fin 8) :
    Record.LaneDecided s.job.job.lanes { r with lanes := (g r).lanes, commit := .committed } k := by
  by_cases used : k.val < s.job.job.lanes
  · have entry := (State.commitLanes_lane hr cutLine labelEnd hg used).entry
    have ref := State.decideLane_ref
      (s.commitLanes r cutLine labelEnd (s.lanesInUse.filter fun j => decide (j < k))) r k
    refine ⟨fun undecided => ?_, fun _ => ?_, ?_⟩
    · rcases undecided with uncommitted | unused
      · cases uncommitted
      · omega
    · show (g r).lanes[k.val].outcome ≠ none
      rw [entry]
      exact Option.some_ne_none _
    · show (g r).lanes[k.val].stackRef.isSome = true ↔ (g r).lanes[k.val].outcome = some .stack
      rw [entry, Option.some.injEq]
      exact ref
  · have same := others k fun member => used ((s.mem_lanesInUse k).1 member)
    obtain ⟨undecided, -, stacked⟩ := before k
    show (_ → (g r).lanes[k.val].outcome = none ∧ (g r).lanes[k.val].override = none
      ∧ (g r).lanes[k.val].stackRef = none) ∧ (_ → (g r).lanes[k.val].outcome ≠ none)
      ∧ ((g r).lanes[k.val].stackRef.isSome = true ↔ (g r).lanes[k.val].outcome = some .stack)
    rw [same]
    exact ⟨fun _ => undecided (.inl open_), fun ⟨_, inUse⟩ => absurd inUse used, stacked⟩

theorem State.commit_shape (h : s.QueueShape) {r : Record} {older younger : List Record}
    (split : s.track.queue = older ++ r :: younger) (first : ∀ x ∈ older, x.commit = .committed)
    (open_ : r.commit = .uncommitted) (cutLine labelEnd : Word) (room : s.gateRoom r.serial = true) :
    (s.commit r cutLine labelEnd).QueueShape := by
  have frame := s.commitLanes_frame r cutLine labelEnd s.lanesInUse s.lanesInUse_nodup
  obtain ⟨g, track, fields⟩ := frame.record
  have member : r ∈ s.track.queue := by rw [split]; simp
  have serial : ∀ x, (g x).serial = x.serial := fun x => by rw [(fields x).1]
  have committed : (s.commit r cutLine labelEnd).track
      = (s.onRecord r.serial fun x => { g x with commit := .committed }).track := by
    rw [State.commit_passes room, State.onRecord_track_congr track, State.onRecord_onRecord _ _ _ _ serial]
    rfl
  have job : (s.commit r cutLine labelEnd).job = s.job := by
    rw [State.commit_passes room]
    exact (congrArg (·.job) frame.rest :)
  rw [s.onRecord_of_serialsApart _ older younger r split h.serialsApart] at committed
  have record : ({ g r with commit := .committed } : Record) = { r with lanes := (g r).lanes, commit := .committed } := by
    rw [(fields r).1]
  rw [State.queueShape_iff] at h ⊢
  have before : ∀ k : Fin 8, r.LaneDecided s.job.job.lanes k := h.decided r member
  rw [job, committed]
  show Shaped s.job.state s.job.job s.track.nextSerial (older ++ { g r with commit := .committed } :: younger)
  rw [record]
  rw [split] at h
  exact h.committed _ first (State.commit_decided member cutLine labelEnd track (fields r).2 open_ before)

/-- R59: the tail. -/
theorem State.ended_shape (h : s.QueueShape) (run : s.job.state = .run) : s.ended.QueueShape := by
  rcases List.eq_nil_or_concat' s.track.queue with empty | ⟨older, r, hq⟩
  · refine .of_empty ?_
    show s.closeTail.track.queue = []
    rw [State.closeTail_of_empty empty, empty]
  · have apart := h.serialsApart
    have apart' : (({ s with track := { s.track with queue := older ++ [{ r with tail := true }] } } : State)).SerialsApart := by
      unfold State.SerialsApart at apart ⊢
      rw [hq] at apart
      simpa using apart
    have settings := s.closeTail_settings
    have job : s.closeTail.job.job = s.job.job := (congrArg (·.job.job) settings :)
    have next : s.closeTail.track.nextSerial = s.track.nextSerial := (congrArg (·.nextSerial) settings :)
    rw [State.queueShape_iff] at h ⊢
    show Shaped .ending s.closeTail.job.job s.closeTail.track.nextSerial s.closeTail.track.queue
    rw [job, next]
    rw [run, hq] at h
    refine h.ended.of_unmarked ?_
    rw [State.closeTail_split hq apart]
    exact State.closeRecord_unmarked apart' (r := { r with tail := true }) (younger := []) rfl _

end shape

/-! ## Every move -/

/-- Every move keeps the shape of the repeat queue. -/
theorem Move.queueShape {κ : Kind} {s t : State} (move : Move κ s t) (h : s.QueueShape) : t.QueueShape := by
  cases move with
  | touch touch =>
    have touches : Touches false s t := .single touch
    exact h.of_unmarked touches.job touches.nextSerial touches.unmarked
  | tally same => exact h.of_same (congrArg State.job same :) (congrArg State.track same :)
  | commit r older younger cutLine labelEnd _ split first open_ _ room =>
    exact State.commit_shape h split first open_ cutLine labelEnd room
  | retire r younger _ split _ =>
    have frame := State.arrived_frame (s := s) (r := r) (by rw [split]; exact List.cons_ne_nil _ _)
    have job : (s.arrived r).job = s.job := (congrArg (·.job) frame.rest :)
    rw [State.queueShape_iff] at h ⊢
    show Shaped (s.arrived r).job.state (s.arrived r).job.job (s.arrived r).track.nextSerial (s.arrived r).track.queue.tail
    rw [job, frame.track, split]
    rw [split] at h
    exact h.tail
  | close _ _ =>
    rw [State.closedLanes_eq]
    exact h
  | change k _ _ =>
    rw [State.requestChange_onLane]
    exact h
  | short k _ _ =>
    rw [State.requestChange_onLane]
    exact h
  | create anchor origin cls emptied run room _ =>
    cases emptied with
    | false => exact State.createRecord_shape h run room anchor origin cls
    | true => exact State.createRecord_shape (s := s.clearRing) h run room anchor origin cls
  | hold cause runs _ =>
    rw [State.enterHold_eq s cause runs]
    exact .of_empty rfl
  | finish _ empty => exact .of_empty empty
  | arm config _ => exact h.of_idle (by rw [config]; decide) (by rw [config]; decide) rfl
  | start armed => exact h.of_idle (by rw [armed]; decide) (by rw [armed]; decide) rfl
  | resume held => exact h.of_idle (by rw [held]; decide) (by rw [held]; decide) rfl
  | clear idle =>
    unfold State.cleared State.discardQueue
    exact .of_empty rfl
  | ends run => exact State.ended_shape h run
  | job x config => exact h.of_idle (by rw [config]; decide) (by rw [config]; decide) rfl
  | soft => exact .of_empty rfl
  | power straps => exact .of_empty rfl
  | _ => exact h

/-- Settles O55: every move keeps the shape, and a step is a path of moves. -/
theorem queueShapeIsKept : Obligations.QueueShapeIsKept :=
  fun _ _ h stepped => step_keeps (fun _ _ h => h) (fun _ _ _ => Move.queueShape) stepped h

end Sys2Proof.Machine
end

section
/-! Queues and lists stay within their capacities, notices apart and credits in range, under every move. -/

namespace Sys2Proof.Machine

/-! ## Notices -/

theorem coalesce_some {kind : NoticeKind} {lane : Option (Fin 8)} {ns ns' : List Notice}
    (h : coalesce kind lane ns = some ns') : ns'.map (fun n => (n.kind, n.lane)) = ns.map (fun n => (n.kind, n.lane))
      ∧ ((∀ n ∈ ns, 1 ≤ n.count ∧ n.count ≤ 255) → ∀ n ∈ ns', 1 ≤ n.count ∧ n.count ≤ 255) := by
  induction ns generalizing ns' with
  | nil => cases h
  | cons n ns ih =>
    unfold coalesce at h
    split at h
    · cases h
      refine ⟨rfl, fun counts x hx => ?_⟩
      rw [List.forall_mem_cons] at counts
      rcases List.mem_cons.1 hx with rfl | hx
      · dsimp only
        split <;> omega
      · exact counts.2 x hx
    · obtain ⟨rest, hrest, rfl⟩ := Option.map_eq_some_iff.1 h
      obtain ⟨same, kept⟩ := ih hrest
      refine ⟨by rw [List.map_cons, List.map_cons, same], fun counts => ?_⟩
      rw [List.forall_mem_cons] at counts ⊢
      exact ⟨counts.1, kept counts.2⟩

theorem coalesce_none {kind : NoticeKind} {lane : Option (Fin 8)} {ns : List Notice}
    (h : coalesce kind lane ns = none) : (kind, lane) ∉ ns.map fun n => (n.kind, n.lane) := by
  induction ns with
  | nil => simp
  | cons n ns ih =>
    unfold coalesce at h
    split at h
    · cases h
    · next other =>
      rw [List.map_cons, List.mem_cons, not_or, Prod.mk.injEq]
      exact ⟨fun ⟨k, l⟩ => other ⟨k.symm, l.symm⟩, ih (Option.map_eq_none_iff.1 h)⟩

/-- Every queue of the scheduler but the STACK queue within its capacity, notices apart and credits in range. -/
structure Scheduler.Fits (q : Scheduler) : Prop where
  knife : q.knife.length ≤ 8
  gate : q.gate.length ≤ 16
  notices : q.notices.length ≤ 16
  apart : q.NoticesApart
  credits : q.CreditsFit

/-- R151: a notice keeps the NOTICE queue within its capacity and its items apart. -/
theorem Scheduler.Fits.notify {q : Scheduler} (h : q.Fits) (kind : NoticeKind) (lane : Option (Fin 8)) (value : Word) :
    (q.notify kind lane value).Fits := by
  obtain ⟨knife, gate, notices, ⟨apart, counts⟩, credits⟩ := h
  rcases hc : coalesce kind lane q.notices with _ | ns
  · rcases Nat.lt_or_ge q.notices.length 16 with room | full
    · rw [Scheduler.notify_of_room value hc room]
      refine ⟨knife, gate, by simpa using room, ⟨?_, fun n hn => ?_⟩, credits⟩
      · rw [List.map_append, List.nodup_append]
        refine ⟨apart, by simp, fun x hx y hy same => coalesce_none hc ?_⟩
        rw [List.map_singleton, List.mem_singleton] at hy
        rwa [← hy, ← same]
      · rcases List.mem_append.1 hn with hn | hn
        · exact counts n hn
        · rw [List.mem_singleton.1 hn]
          exact ⟨le_rfl, (by decide : 1 ≤ 255)⟩
    · rw [Scheduler.notify_of_full value hc full]
      exact ⟨knife, gate, notices, ⟨apart, counts⟩, credits⟩
  · obtain ⟨same, kept⟩ := coalesce_some hc
    rw [Scheduler.notify_of_coalesce value hc]
    have length := congrArg List.length same
    rw [List.length_map, List.length_map] at length
    exact ⟨knife, gate, length.le.trans notices, ⟨by rw [same]; exact apart, kept counts⟩, credits⟩

/-! ## Notices and STACK items one after another -/

/-- The scheduler q' is q after notices and changes of the STACK queue. -/
abbrev Tells : Scheduler → Scheduler → Prop := Relation.ReflTransGen fun q q' =>
  (∃ stack, q' = { q with stack }) ∨ ∃ kind lane value, q' = q.notify kind lane value

theorem Tells.fits {q q' : Scheduler} (tells : Tells q q') (h : q.Fits) : q'.Fits := by
  induction tells with
  | refl => exact h
  | tail _ step ih =>
    rcases step with ⟨stack, rfl⟩ | ⟨kind, lane, value, rfl⟩
    · exact ⟨ih.knife, ih.gate, ih.notices, ih.apart, ih.credits⟩
    · exact ih.notify kind lane value

theorem Tells.of_eq {q q' : Scheduler} (same : q' = q) : Tells q q' :=
  same ▸ .refl

theorem Tells.stack (q : Scheduler) (stack : List StackItem) : Tells q { q with stack } :=
  .single (.inl ⟨stack, rfl⟩)

theorem Tells.notify (q : Scheduler) (kind : NoticeKind) (lane : Option (Fin 8)) (value : Word) :
    Tells q (q.notify kind lane value) :=
  .single (.inr ⟨kind, lane, value, rfl⟩)

theorem Tells.foldl {α : Type} {f : State → α → State} (step : ∀ s a, Tells s.sched (f s a).sched) (l : List α) (s : State) :
    Tells s.sched (l.foldl f s).sched := by
  induction l generalizing s with
  | nil => exact .refl
  | cons a l ih => exact (step s a).trans (ih (f s a))

section tells
variable (s : State) (k : Fin 8)

theorem State.lateInformation_tells (r : Record) (kind : LateKind) : Tells s.sched (s.lateInformation r k kind).sched := by
  rw [State.lateInformation_eq]
  exact .notify _ _ _ _

theorem Touches.tells {b : Bool} {s t : State} (h : Touches b s t) : Tells s.sched t.sched := by
  induction h with
  | refl => exact .refl
  | tail _ touch ih =>
    refine ih.trans ?_
    cases touch with
    | notice => exact Tells.notify _ _ _ _
    | marks => exact .refl
    | closes => exact .refl
    | informed _ _ r k kind => exact State.lateInformation_tells _ k r kind
    | zones => exact .refl

theorem State.requestChange_tells : Tells s.sched (s.requestChange k).sched := by
  rw [State.requestChange_eq]
  exact .stack _ _

theorem State.completeEnding_tells : Tells s.sched s.completeEnding.sched := by
  unfold State.completeEnding
  split
  · exact .notify _ _ _ _
  · exact .refl

theorem State.faultLane_tells (cause : FaultCause) : Tells s.sched (s.faultLane k cause).sched := by
  have told : Tells s.sched
      ((s.faultedLane k cause).notify .stackerFault (some k) (BitVec.ofNat 32 cause.code)).sched :=
    (Tells.stack s.sched (s.sched.stack.filter (·.lane != k))).trans (Tells.notify _ _ _ _)
  rw [State.faultLane_eq]
  exact told.trans (State.completeEnding_tells _)

theorem State.lateGateCharge_tells (r : Record) : Tells s.sched (s.lateGateCharge r k).sched := by
  rw [State.lateGateCharge_eq]
  split
  · exact State.lateInformation_tells (s.onLateGates k (pruneRanges r.serial)) k r .lateGate
  · exact .refl

theorem State.landLabel_tells (n : Nat) : Tells s.sched (s.landLabel k n).2.sched := by
  rcases s.landLabel_cases k n with ⟨landing, -⟩ | ⟨landing, -⟩ | ⟨landing, -⟩
  · rw [landing]
  · rw [landing]
    exact State.faultLane_tells (s.onLane k (·.land n)) k .holdOverrun
  · rw [landing]
    exact State.requestChange_tells (s.onLane k (·.land n)) k

theorem State.arriveLane_tells (r : Record) : Tells s.sched (s.arriveLane r k).sched := by
  by_cases stacked : r.lanes[k.val].outcome = some .stack
  · rw [s.arriveLane_stack k stacked]
    exact State.landLabel_tells s k _
  · rw [s.arriveLane_other k stacked]

theorem State.arrived_tells (r : Record) : Tells s.sched (s.arrived r).sched :=
  (Tells.foldl (fun s k => State.lateGateCharge_tells s k r) s.lanesInUse s).trans
    (Tells.foldl (fun s k => State.arriveLane_tells s k r) s.lanesInUse _)

theorem State.compareAlarms_tells : Tells s.sched s.compareAlarms.sched := by
  have low (u : State) : Tells u.sched u.alarmLow.sched := by
    unfold State.alarmLow
    split
    · exact .refl
    · exact .notify _ _ _ _
  have high (u : State) : Tells u.sched u.alarmHigh.sched := by
    unfold State.alarmHigh
    split
    · exact .refl
    · exact .notify _ _ _ _
  unfold State.compareAlarms
  dsimp only
  split
  · split
    · exact (low s).trans (high _)
    · exact high s
  · split
    · exact low s
    · exact .refl

theorem State.placeSample_tells (sample : Int) : Tells s.sched (s.placeSample sample).sched := by
  unfold State.placeSample
  dsimp only
  split
  · exact State.compareAlarms_tells (((s.onReg _).onReg _))
  · exact .refl

/-- R30: a creation queues notices and no more. -/
theorem State.createRecord_tells (anchor : Word) (origin : Origin) (cls : RegState) :
    Tells s.sched (s.createRecord anchor origin cls).sched := by
  have slip : Tells s.sched s.countSlip.sched := by
    rw [State.countSlip_eq]
    show Tells s.sched (s.withSlipNotice s.sched)
    unfold State.withSlipNotice
    split
    · exact .notify _ _ _ _
    · exact .refl
  have joined : Tells s.sched (s.withNext anchor origin cls).sched :=
    slip.trans (s.withNext_touches anchor origin cls).tells
  rw [State.createRecord_eq]
  show Tells s.sched (s.withNextSampled anchor origin cls).sched
  unfold State.withNextSampled
  split
  · exact joined.trans (State.placeSample_tells _ _)
  · exact joined

end tells

/-! ## Credits -/

theorem SchedEntry.reload_le {e : SchedEntry} (h : e.weight ≤ 15) : e.reload ≤ 15 := by
  unfold SchedEntry.reload
  split
  · exact h
  · exact Nat.zero_le _

theorem Scheduler.reload_credits {q : Scheduler} (table : ∀ e ∈ q.table.toList, 1 ≤ e.weight ∧ e.weight ≤ 15) :
    q.reload.CreditsFit := by
  have fits : ∀ i (h : i < 3), q.table[i].reload ≤ 15 := fun i h => SchedEntry.reload_le (table _ (by simp)).2
  exact ⟨table, fits 0 (by decide), fits 1 (by decide), fits 2 (by decide)⟩

theorem Scheduler.spend_credits {q : Scheduler} (h : q.CreditsFit) (x : Source) : (q.spend x).CreditsFit := by
  obtain ⟨table, gate, stack, notice⟩ := h
  cases x with
  | gate => exact ⟨table, (Nat.sub_le _ _).trans gate, stack, notice⟩
  | stack => exact ⟨table, gate, (Nat.sub_le _ _).trans stack, notice⟩
  | notice => exact ⟨table, gate, stack, (Nat.sub_le _ _).trans notice⟩

/-- R143, R148: the ladder keeps the credits in range. -/
theorem Scheduler.choose_credits {q : Scheduler} (h : q.CreditsFit) : q.choose.2.CreditsFit := by
  unfold Scheduler.choose
  split
  · exact h
  · split
    · exact Scheduler.spend_credits h _
    · split
      · split
        · exact Scheduler.spend_credits (Scheduler.reload_credits h.1) _
        · exact Scheduler.reload_credits h.1
      · exact h

/-! ## Every move -/

/-- Every queue and list but the STACK queue within its capacity, notices apart and credits in range. -/
structure State.Fits (s : State) : Prop where
  queue : s.track.queue.length ≤ 256
  zones : s.track.zones.length ≤ 64
  sched : s.sched.Fits

theorem State.fits_iff (s : State) : s.Fits ↔ s.CapacitiesHold ∧ s.sched.NoticesApart ∧ s.sched.CreditsFit :=
  ⟨fun ⟨queue, zones, ⟨knife, gate, notices, apart, credits⟩⟩ => ⟨⟨queue, zones, knife, gate, notices⟩, apart, credits⟩,
    fun ⟨⟨queue, zones, knife, gate, notices⟩, apart, credits⟩ => ⟨queue, zones, ⟨knife, gate, notices, apart, credits⟩⟩⟩

theorem Touches.zones {b : Bool} {s t : State} (h : Touches b s t) (few : s.track.zones.length ≤ 64) :
    t.track.zones.length ≤ 64 := by
  induction h with
  | refl => exact few
  | tail _ touch ih =>
    cases touch with
    | notice => exact ih
    | marks => exact ih
    | closes => exact ih
    | informed _ _ r k kind =>
      rw [State.lateInformation_eq]
      exact ih
    | zones _ _ _ _ _ room => exact room ih

theorem State.Fits.touches {s t : State} {b : Bool} (h : s.Fits) (touches : Touches b s t) : t.Fits where
  queue := touches.queue_length ▸ h.queue
  zones := touches.zones h.zones
  sched := touches.tells.fits h.sched

theorem State.Fits.of_tells {s t : State} (h : s.Fits) (track : t.track = s.track) (tells : Tells s.sched t.sched) :
    t.Fits where
  queue := by rw [track]; exact h.queue
  zones := by rw [track]; exact h.zones
  sched := tells.fits h.sched

theorem State.Fits.createRecord {s : State} (h : s.Fits) (room : s.track.queue.length < 256) (anchor : Word)
    (origin : Origin) (cls : RegState) : (s.createRecord anchor origin cls).Fits := by
  have touches := s.withNext_touches anchor origin cls
  have slip : s.countSlip.track = s.track := by rw [State.countSlip_eq]
  have track := (s.createRecord_kept anchor origin cls).1
  refine ⟨?_, ?_, (s.createRecord_tells anchor origin cls).fits h.sched⟩
  · rw [track, touches.queue_length]
    show (s.countSlip.track.queue ++ [_]).length ≤ 256
    rw [slip, List.length_append]
    exact room
  · rw [track]
    refine touches.zones ?_
    show s.countSlip.track.zones.length ≤ 64
    rw [slip]
    exact h.zones

theorem Scheduler.powerOn_credits : Scheduler.powerOn.CreditsFit := by decide

theorem State.powerOn_fits (straps : BitVec 6) : (State.powerOn straps).Fits :=
  ⟨Nat.zero_le _, Nat.zero_le _, ⟨Nat.zero_le _, Nat.zero_le _, Nat.zero_le _, ⟨List.nodup_nil, nofun⟩,
    Scheduler.powerOn_credits⟩⟩

/-- R57, R105: a commit leaves the queues but the GATE queue, which has room for it. -/
theorem State.Fits.commit {s : State} (h : s.Fits) (r : Record) (cutLine labelEnd : Word)
    (room : s.gateRoom r.serial = true) : (s.commit r cutLine labelEnd).Fits := by
  obtain ⟨queue, zones, ⟨knife, gate, notices, apart, credits⟩⟩ := h
  have frame := s.commitLanes_frame r cutLine labelEnd s.lanesInUse s.lanesInUse_nodup
  have gate' := State.commitLanes_gate_length (cutLine := cutLine) (labelEnd := labelEnd) room gate
  obtain ⟨g, track, -⟩ := frame.record
  have others : ({ (s.commitLanes r cutLine labelEnd s.lanesInUse).sched with gate := [], stack := [] } : Scheduler)
      = { s.sched with gate := [], stack := [] } := (congrArg (·.sched) frame.rest :)
  have length : (s.commit r cutLine labelEnd).track.queue.length = s.track.queue.length := by
    rw [State.commit_passes room, State.onRecord_track_congr track]
    simp [State.onRecord, State.onTrack]
  rw [State.commit_passes room] at length ⊢
  generalize s.commitLanes r cutLine labelEnd s.lanesInUse = t at *
  obtain ⟨link, tracking, reg, cut, disp, stk, sched, job, pending⟩ := t
  cases sched
  simp only [Scheduler.mk.injEq] at others
  obtain ⟨rfl, -, -, rfl, rfl, rfl, rfl, rfl, -⟩ := others
  refine ⟨length.le.trans queue, ?_, ⟨knife, gate', notices, apart, credits⟩⟩
  exact (congrArg (·.zones.length) track).le.trans zones

/-- Every move keeps the capacities, the notices apart and the credits in range. -/
theorem Move.fits {κ : Kind} {s t : State} (move : Move κ s t) (h : s.Fits) : t.Fits := by
  obtain ⟨queue, zones, ⟨knife, gate, notices, apart, credits⟩⟩ := id h
  cases move with
  | touch touch => exact h.touches (.single touch)
  | tally same => exact h.of_tells (congrArg State.track same :) (.of_eq (congrArg State.sched same :))
  | knife left fewer => exact ⟨queue, zones, ⟨fewer.length_le.trans knife, gate, notices, apart, credits⟩⟩
  | build x _ room => exact ⟨queue, zones, ⟨by simpa using room, gate, notices, apart, credits⟩⟩
  | commit r _ _ cutLine labelEnd _ _ _ _ _ room =>
    exact h.commit r cutLine labelEnd room
  | retire r _ _ split _ =>
    have frame := State.arrived_frame (s := s) (r := r) (by rw [split]; exact List.cons_ne_nil _ _)
    have arrived : (s.arrived r).Fits := h.of_tells frame.track (State.arrived_tells s r)
    exact ⟨(List.length_tail ▸ (Nat.sub_le _ _)).trans arrived.queue, arrived.zones, arrived.sched⟩
  | close _ _ =>
    rw [State.closedLanes_eq]
    exact h.of_tells rfl (.stack _ _)
  | fault k cause _ => exact h.of_tells rfl (.stack _ _)
  | change k _ _ =>
    rw [State.requestChange_onLane]
    exact h.of_tells rfl (.stack _ _)
  | short k _ _ =>
    rw [State.requestChange_onLane]
    exact h.of_tells rfl (.stack _ _)
  | gate x rest head =>
    rw [head] at gate
    exact ⟨queue, zones, ⟨knife, Nat.le_of_succ_le gate, notices, apart, credits⟩⟩
  | gateLate x rest head =>
    rw [head] at gate
    exact ⟨queue, zones, ⟨knife, Nat.le_of_succ_le gate, notices, apart, credits⟩⟩
  | stack x rest _ => exact h.of_tells rfl (.stack s.sched rest)
  | notice rest fewer dropped =>
    obtain ⟨distinct, counts⟩ := apart
    exact ⟨queue, zones, ⟨knife, gate, fewer.length_le.trans notices,
      ⟨distinct.sublist (fewer.map _), fun n hn => counts n (fewer.subset hn)⟩, credits⟩⟩
  | credits =>
    obtain ⟨knife', gate', -, notices', -⟩ := s.sched.choose_frame
    refine ⟨queue, zones, ⟨knife'.symm ▸ knife, gate'.symm ▸ gate, notices'.symm ▸ notices, ?_,
      Scheduler.choose_credits credits⟩⟩
    show _ ∧ _
    rw [notices']
    exact apart
  | create anchor origin cls emptied _ room _ =>
    cases emptied with
    | false => exact h.createRecord room anchor origin cls
    | true => exact State.Fits.createRecord (s := s.clearRing) ⟨queue, zones, h.sched⟩ room anchor origin cls
  | hold cause runs _ =>
    have told := h.sched.notify .jobState none (jobNoticeValue .hold cause)
    rw [State.enterHold_eq s cause runs]
    exact ⟨Nat.zero_le _, Nat.zero_le _, ⟨Nat.zero_le _, Nat.zero_le _, told.notices, told.apart, told.credits⟩⟩
  | clear _ =>
    unfold State.cleared State.discardQueue
    exact ⟨Nat.zero_le _, Nat.zero_le _, (Tells.stack s.sched []).fits h.sched⟩
  | ends _ =>
    unfold State.ended State.closeTail
    split
    · exact ⟨queue, zones, h.sched⟩
    · next r _ =>
      have marked : (s.onRecord r.serial fun x => { x with tail := true }).Fits :=
        ⟨by simpa [State.onRecord, State.onTrack] using queue, zones, h.sched⟩
      have closed := marked.touches (State.closeRecord_touches r (shift r.nominalStart s.job.job.pitch) _)
      exact ⟨closed.queue, closed.zones, closed.sched⟩
  | sched table ranged =>
    exact ⟨queue, zones, ⟨knife, gate, notices, apart, Scheduler.reload_credits (ranged credits.1)⟩⟩
  | soft =>
    exact ⟨Nat.zero_le _, Nat.zero_le _, ⟨Nat.zero_le _, Nat.zero_le _, Nat.zero_le _, ⟨List.nodup_nil, nofun⟩,
      Scheduler.reload_credits credits.1⟩⟩
  | power straps =>
    obtain ⟨queue, zones, sched⟩ := State.powerOn_fits straps
    exact ⟨queue, zones, sched⟩
  | _ => exact ⟨queue, zones, h.sched⟩

end Sys2Proof.Machine
end

section
/-! The hold cause and a quiet HOLD under every move, the STACK queue's length, and O54. -/

namespace Sys2Proof.Machine

/-! ## The STACK queue -/

/-- R130, R142: with one item a lane at most, the STACK queue holds at most 8. -/
theorem State.StackingSound.stack_length {s : State} (h : s.StackingSound) : s.sched.stack.length ≤ 8 := by
  have distinct : (s.sched.stack.map (·.lane)).Nodup := by
    rw [List.nodup_iff_count_le_one]
    intro k
    have items := ((State.stackingSound_iff s).1 h k).items
    have few := queuedOf_length_le (s.lane k).list
    rw [← items, List.length_map] at few
    rw [List.count, List.countP_map, List.countP_eq_length_filter]
    exact few
  have := distinct.length_le_card
  simpa using this

/-! ## HOLD -/

/-- R153, R155: the hold cause agrees with the job state, and HOLD is quiet. -/
structure State.Quiet (s : State) : Prop where
  cause : s.CauseAgrees
  hold : s.HoldIsQuiet

section quiet
variable {s t : State}

theorem State.Quiet.of_kept (h : s.Quiet) (job : t.job = s.job) (knife : t.sched.knife = s.sched.knife)
    (gate : t.sched.gate = s.sched.gate) (lateGates : t.disp.lateGates = s.disp.lateGates) : t.Quiet := by
  obtain ⟨cause, hold⟩ := h
  refine ⟨?_, ?_⟩
  · rw [State.CauseAgrees, job]
    exact cause
  · rw [State.HoldIsQuiet, job, knife, gate, lateGates]
    exact hold

/-- Outside HOLD the job's cause alone counts. -/
theorem State.Quiet.of_job (h : s.Quiet) (job : t.job = s.job) (not_held : s.job.state ≠ .hold) : t.Quiet where
  cause := by rw [State.CauseAgrees, job]; exact h.cause
  hold held := absurd (job ▸ held) not_held

theorem State.Quiet.of_state (cause : t.job.cause = .none) (state : t.job.state ≠ .hold) : t.Quiet :=
  ⟨⟨fun _ => state, fun _ => cause⟩, fun held => absurd held state⟩

theorem State.not_held_of_running (runs : s.running = true) : s.job.state ≠ .hold := by
  rcases (State.running_iff s).1 runs with run | ending
  · rw [run]; decide
  · rw [ending]; decide

theorem State.Quiet.createRecord (h : s.Quiet) (run : s.job.state = .run) (anchor : Word) (origin : Origin)
    (cls : RegState) : (s.createRecord anchor origin cls).Quiet := by
  obtain ⟨-, -, -, -, -, job, -⟩ := s.createRecord_kept anchor origin cls
  exact h.of_job job (by rw [run]; decide)

end quiet

/-- Every move keeps the hold cause agreed with the state, and HOLD quiet. -/
theorem Move.quiet {κ : Kind} {s t : State} (move : Move κ s t) (h : s.Quiet) : t.Quiet := by
  cases move with
  | touch touch =>
    have touches : Touches false s t := .single touch
    exact h.of_kept touches.job touches.knife touches.gate touches.lateGates
  | tally same =>
    exact h.of_kept (congrArg State.job same :) (congrArg (·.sched.knife) same :) (congrArg (·.sched.gate) same :)
      (congrArg (·.disp.lateGates) same :)
  | knife left fewer =>
    refine ⟨h.cause, fun held => ?_⟩
    obtain ⟨knife, gate, lateGates⟩ := h.hold held
    rw [knife] at fewer
    exact ⟨List.sublist_nil.1 fewer, gate, lateGates⟩
  | build x runs _ => exact h.of_job rfl (State.not_held_of_running runs)
  | commit r _ _ cutLine labelEnd runs _ _ _ _ room =>
    rw [State.commit_passes room]
    have frame := s.commitLanes_frame r cutLine labelEnd s.lanesInUse s.lanesInUse_nodup
    exact h.of_job (congrArg (·.job) frame.rest :) (State.not_held_of_running runs)
  | retire r _ runs split _ =>
    have frame := State.arrived_frame (s := s) (r := r) (by rw [split]; exact List.cons_ne_nil _ _)
    exact h.of_job (congrArg (·.job) frame.rest :) (State.not_held_of_running runs)
  | close _ _ =>
    rw [State.closedLanes_eq]
    exact h.of_kept rfl rfl rfl rfl
  | change k _ _ =>
    rw [State.requestChange_onLane]
    exact h.of_kept rfl rfl rfl rfl
  | short k _ _ =>
    rw [State.requestChange_onLane]
    exact h.of_kept rfl rfl rfl rfl
  | gate x rest head =>
    refine ⟨h.cause, fun held => ?_⟩
    rw [(h.hold held).2.1] at head
    cases head
  | gateLate x rest head =>
    refine ⟨h.cause, fun held => ?_⟩
    rw [(h.hold held).2.1] at head
    cases head
  | credits =>
    obtain ⟨knife, gate, -⟩ := s.sched.choose_frame
    exact h.of_kept rfl knife gate rfl
  | create anchor origin cls emptied run _ _ =>
    cases emptied with
    | false => exact h.createRecord run anchor origin cls
    | true => exact State.Quiet.createRecord (s := s.clearRing) ⟨h.cause, h.hold⟩ run anchor origin cls
  | hold cause runs named =>
    rw [State.enterHold_eq s cause runs]
    refine ⟨⟨fun none => absurd none named, fun not_held => absurd rfl not_held⟩, fun _ => ⟨rfl, rfl, ?_⟩⟩
    show ∀ l ∈ (Vector.replicate 8 ([] : List SerialRange)).toList, l = []
    decide
  | finish _ _ => exact .of_state rfl nofun
  | arm _ _ => exact .of_state rfl nofun
  | start _ => exact .of_state rfl nofun
  | resume _ => exact .of_state rfl nofun
  | clear _ => exact .of_state rfl nofun
  | ends _ => exact .of_state rfl nofun
  | soft => exact .of_state rfl nofun
  | power straps => exact .of_state rfl nofun
  | _ => exact ⟨h.cause, h.hold⟩

/-- Settles O54: every move keeps the capacities and a quiet HOLD, and a sound stacking unit bounds the STACK queue. -/
theorem capacitiesAndHoldsAreKept : Obligations.CapacitiesAndHoldsAreKept := by
  intro s t stepped
  refine ⟨fun capacities apart credits => ?_, fun sound => ?_, fun cause hold => ?_⟩
  · have fits := (State.fits_iff s).2 ⟨capacities, apart, credits⟩
    exact (State.fits_iff t).1
      (step_keeps (fun _ _ h => ⟨h.queue, h.zones, h.sched⟩) (fun _ _ _ => Move.fits) stepped fits)
  · exact State.StackingSound.stack_length (step_keeps (fun _ _ h => h) (fun _ _ _ => Move.stackingSound) stepped sound)
  · have quiet := step_keeps (P := State.Quiet) (fun _ _ h => ⟨h.cause, h.hold⟩) (fun _ _ _ => Move.quiet) stepped
      ⟨cause, hold⟩
    exact ⟨quiet.cause, quiet.hold⟩

end Sys2Proof.Machine
end

section
/-! The machine right after reset meets the invariants: O59. -/

namespace Sys2Proof.Machine

/-- Settles O59: every queue and list is empty after reset, the job is in CONFIG, and every lane is READY. -/
theorem resetMeetsTheInvariants : Obligations.ResetMeetsTheInvariants := by
  intro straps s
  obtain ⟨capacities, apart, credits⟩ := (State.fits_iff s).1 (State.powerOn_fits straps)
  have config : s.job.state = .config := rfl
  have quiet : s.Quiet := .of_state rfl (by rw [config]; decide)
  exact ⟨capacities, apart, credits, quiet.cause, quiet.hold, .of_empty rfl,
    .of_empty (fun other => absurd config other) rfl rfl, State.powerOn_loopBounded straps,
    State.powerOn_stackingSound straps⟩

end Sys2Proof.Machine
end

section
/-! Every label of a lane in use is counted once (R111): O42. -/

namespace Sys2Proof.Machine

/-! ## Counts -/

/-- No outcome counter above b. -/
def LaneCounters.Below (b : Nat) (c : LaneCounters) : Prop :=
  c.stacked.toNat ≤ b ∧ c.rejected.toNat ≤ b ∧ c.wasted.toNat ≤ b ∧ c.gap.toNat ≤ b ∧ c.diverted.toNat ≤ b
    ∧ c.lost.toNat ≤ b

/-- From c to c' the outcome counters have counted j labels, as far as they have room. -/
def Counted (j : Nat) (c c' : LaneCounters) : Prop :=
  ∀ b, c.Below b → b + j ≤ 4294967295 → c'.Below (b + j) ∧ c'.outcomes = c.outcomes + j

theorem Counted.trans {i j : Nat} {c c' c'' : LaneCounters} (h : Counted i c c') (h' : Counted j c' c'') :
    Counted (i + j) c c'' := by
  intro b below room
  obtain ⟨below', outcomes⟩ := h b below (by omega)
  obtain ⟨below'', outcomes'⟩ := h' (b + i) below' (by omega)
  exact ⟨by rw [← Nat.add_assoc]; exact below'', by rw [outcomes', outcomes, Nat.add_assoc]⟩

theorem Counted.of_uninformed {c c' : LaneCounters} (h : c'.uninformed = c.uninformed) : Counted 0 c c' := by
  obtain ⟨rejected, wasted, gap, diverted, -, stacked, lost⟩ := LaneCounters.of_uninformed h
  intro b below _
  rw [LaneCounters.outcomes, LaneCounters.outcomes, LaneCounters.Below, rejected, wasted, gap, diverted, stacked, lost]
  exact ⟨below, rfl⟩

theorem Counted.refl (c : LaneCounters) : Counted 0 c c :=
  .of_uninformed rfl

theorem satInc_toNat_of_room {c : Word} (room : c.toNat < 4294967295) : (satInc c).toNat = c.toNat + 1 := by
  have below : c ≠ 0xFFFFFFFF#32 := fun full => by
    rw [full] at room
    exact absurd room (by decide)
  rw [satInc, if_neg below, BitVec.toNat_add]
  exact Nat.mod_eq_of_lt (by change c.toNat + 1 < 4294967296; omega)

theorem Counted.bump {which : LaneCounter} (info : which ≠ .lateInfo) (gate : which ≠ .lateGate) (c : LaneCounters) :
    Counted 1 c (c.bump which) := by
  intro b ⟨stacked, rejected, wasted, gap, diverted, lost⟩ room
  have counts {w : Word} (below : w.toNat ≤ b) : (satInc w).toNat = w.toNat + 1 := satInc_toNat_of_room (by omega)
  cases which with
  | lateInfo => exact absurd rfl info
  | lateGate => exact absurd rfl gate
  | _ =>
    simp only [LaneCounters.Below, LaneCounters.bump, LaneCounters.outcomes, counts stacked, counts rejected,
      counts wasted, counts gap, counts diverted, counts lost]
    omega

theorem Counted.iterate {which : LaneCounter} (info : which ≠ .lateInfo) (gate : which ≠ .lateGate) (n : Nat)
    (c : LaneCounters) : Counted n c ((LaneCounters.bump which)^[n] c) := by
  induction n with
  | zero => exact .refl c
  | succ n ih =>
    rw [Function.iterate_succ_apply']
    exact ih.trans (.bump info gate _)

/-! ## Labels still to be counted -/

/-- What tells whether the label of lane k is still to be counted. -/
def Record.label (k : Fin 8) (r : Record) : CommitState × Option LabelOutcome :=
  (r.commit, r.lanes[k.val].outcome)

/-- The label of lane k is still to be counted. -/
def awaited (x : CommitState × Option LabelOutcome) : Bool :=
  x.1 == .uncommitted || x.2 == some .stack

theorem State.uncounted_eq (s : State) (k : Fin 8) :
    s.uncounted k = (s.track.queue.map (Record.label k)).countP awaited := by
  rw [List.countP_map, List.countP_eq_length_filter]
  rfl

theorem Record.label_unmarked (k : Fin 8) (r : Record) : r.unmarked.label k = r.label k := by
  have lane : r.unmarked.lanes[k.val] = { r.lanes[k.val] with defect := false, splice := false } := Vector.getElem_map ..
  rw [Record.label, lane]
  rfl

theorem Record.label_bare (k : Fin 8) (r : Record) : r.bare.label k = r.label k :=
  r.label_unmarked k

/-! ## One move -/

/-- From s to t the labels of lane k counted, and those still to be counted, have grown by n together. -/
def Conserves (k : Fin 8) (n : Nat) (s t : State) : Prop :=
  ∃ j, Counted j s.disp.counters[k.val] t.disp.counters[k.val] ∧ t.uncounted k + j = s.uncounted k + n

section conserves
variable {k : Fin 8} {m n : Nat} {s t u : State}

theorem Conserves.trans (h : Conserves k m s t) (h' : Conserves k n t u) : Conserves k (m + n) s u := by
  obtain ⟨i, counted, labels⟩ := h
  obtain ⟨j, counted', labels'⟩ := h'
  exact ⟨i + j, counted.trans counted', by omega⟩

theorem Conserves.of_labels (counters : t.disp.counters[k.val].uninformed = s.disp.counters[k.val].uninformed)
    (labels : t.track.queue.map (Record.label k) = s.track.queue.map (Record.label k)) : Conserves k 0 s t :=
  ⟨0, .of_uninformed counters, by rw [State.uncounted_eq, State.uncounted_eq, labels]⟩

theorem Conserves.of_same (counters : t.disp.counters = s.disp.counters) (queue : t.track.queue = s.track.queue) :
    Conserves k 0 s t :=
  .of_labels (by rw [counters]) (by rw [queue])

theorem Touches.uninformed {b : Bool} (h : Touches b s t) (k : Fin 8) :
    t.disp.counters[k.val].uninformed = s.disp.counters[k.val].uninformed := by
  have counters := congrArg (fun u : State => u.disp.counters[k.val]) h.untouched
  show ({ t.disp.counters[k.val] with lateInfo := 0#32 } : LaneCounters) = { s.disp.counters[k.val] with lateInfo := 0#32 }
  simpa [State.untouched] using counters

theorem Touches.conserves {b : Bool} (h : Touches b s t) : Conserves k 0 s t :=
  .of_labels (h.uninformed k) (h.queue_map _ (Record.label_bare k))

/-- R30: a creation adds one label to be counted. -/
theorem Conserves.createRecord (anchor : Word) (origin : Origin) (cls : RegState) :
    Conserves k 1 s (s.createRecord anchor origin cls) := by
  obtain ⟨track, disp, -⟩ := s.createRecord_kept anchor origin cls
  have slip : s.countSlip.disp = s.disp ∧ s.countSlip.track = s.track := by
    rw [State.countSlip_eq]
    exact ⟨rfl, rfl⟩
  have queued : Conserves k 1 s (s.countSlip.queued (s.nextRecord anchor origin cls)) := by
    refine ⟨0, ?_, ?_⟩
    · show Counted 0 _ s.countSlip.disp.counters[k.val]
      rw [slip.1]
      exact .refl _
    · rw [State.uncounted_eq, State.uncounted_eq]
      show ((s.countSlip.track.queue ++ [_]).map (Record.label k)).countP awaited + 0 = _
      rw [slip.2, List.map_append, List.countP_append]
      rfl
  exact (queued.trans (s.withNext_touches anchor origin cls).conserves).trans
    (.of_same (congrArg (·.counters) disp) (congrArg (·.queue) track))

/-- R59: the tail keeps its label. -/
theorem Conserves.closeTail : Conserves k 0 s s.closeTail := by
  unfold State.closeTail
  split
  · exact .of_same rfl rfl
  · next r _ =>
    have marked : Conserves k 0 s (s.onRecord r.serial fun x => { x with tail := true }) :=
      .of_labels rfl (s.onRecord_map r.serial _ (Record.label k) fun _ => rfl)
    exact marked.trans (State.closeRecord_touches r _ _).conserves

/-- R118: entry to HOLD counts every label still to be counted as LOST. -/
theorem Conserves.enterHold (cause : HoldCause) (runs : s.running = true) (used : k.val < s.job.job.lanes) :
    Conserves k 0 s (s.enterHold cause) := by
  refine ⟨s.uncounted k, ?_, ?_⟩
  · have counters : (s.enterHold cause).disp.counters[k.val]
        = (LaneCounters.bump .lost)^[s.uncounted k] s.disp.counters[k.val] := by
      rw [State.enterHold_eq s cause runs]
      exact (Vector.getElem_ofFn ..).trans (if_pos used)
    rw [counters]
    exact .iterate (by decide) (by decide) _ _
  · rw [State.enterHold_eq s cause runs]
    exact (Nat.zero_add _)

/-- R63: where no record stands, CLEAR counts none. -/
theorem Conserves.cleared (empty : s.track.queue = []) : Conserves k 0 s s.cleared := by
  have discarded := State.discardQueue_of_empty empty
  refine .of_labels ?_ ?_
  · show s.discardQueue.disp.counters[k.val].uninformed = _
    rw [discarded]
  · show s.discardQueue.track.queue.map _ = _
    rw [discarded]

theorem LabelOutcome.counter_some {o : LabelOutcome} {which : LaneCounter} (h : o.counter = some which) :
    o ≠ .stack ∧ which ≠ .lateInfo ∧ which ≠ .lateGate := by
  cases o with
  | stack => cases h
  | _ =>
    cases h
    decide

/-- R105, R109: a commit counts the label, or leaves it to be counted at its arrival. -/
theorem Conserves.commit (apart : s.SerialsApart) {r : Record} {older younger : List Record}
    (split : s.track.queue = older ++ r :: younger) (open_ : r.commit = .uncommitted) (cutLine labelEnd : Word)
    (room : s.gateRoom r.serial = true) (used : k.val < s.job.job.lanes) :
    Conserves k 0 s (s.commit r cutLine labelEnd) := by
  have frame := s.commitLanes_frame r cutLine labelEnd s.lanesInUse s.lanesInUse_nodup
  obtain ⟨g, track, fields⟩ := frame.record
  have member : r ∈ s.track.queue := by rw [split]; simp
  obtain ⟨entry, -, counters, -, -⟩ := State.commitLanes_lane member cutLine labelEnd track used
  have serial : ∀ x, (g x).serial = x.serial := fun x => by rw [(fields x).1]
  have committed : (s.commit r cutLine labelEnd).track.queue = older ++ { g r with commit := .committed } :: younger := by
    rw [State.commit_passes room, State.onRecord_track_congr track, State.onRecord_onRecord _ _ _ _ serial,
      s.onRecord_of_serialsApart _ older younger r split apart]
    rfl
  have before : awaited (r.label k) = true := by
    rw [awaited, Record.label, open_]
    rfl
  have counters' : (s.commit r cutLine labelEnd).disp.counters[k.val]
      = (s.commitLanes r cutLine labelEnd s.lanesInUse).disp.counters[k.val] := by
    rw [State.commit_passes room]
    rfl
  have labels : s.uncounted k = (older.map (Record.label k)).countP awaited + 1
      + (younger.map (Record.label k)).countP awaited := by
    rw [State.uncounted_eq, split, List.map_append, List.map_cons, List.countP_append,
      List.countP_cons_of_pos before]
    omega
  rw [Conserves, State.uncounted_eq, committed, counters', counters, List.map_append, List.map_cons,
    List.countP_append, labels]
  generalize (State.decideLane (s.commitLanes r cutLine labelEnd (s.lanesInUse.filter fun j => decide (j < k))) r
    k).1 = d at entry ⊢
  have label : ({ g r with commit := .committed } : Record).label k = (.committed, some d.outcome) := by
    rw [Record.label]
    dsimp only
    rw [entry]
  rw [label]
  rcases d.outcome.counter_cases with stacked | ⟨which, charged⟩
  · rw [stacked, List.countP_cons_of_pos (by decide)]
    exact ⟨0, .refl _, by omega⟩
  · obtain ⟨other, info, gate⟩ := LabelOutcome.counter_some charged
    have counted : awaited (CommitState.committed, some d.outcome) = false := by simp [awaited, other]
    rw [charged, List.countP_cons_of_neg (by rw [counted]; decide)]
    exact ⟨1, .bump info gate _, by omega⟩

theorem StackLane.landingCounter_outcome (cfg : LaneCfg) (n : Nat) (l : StackLane) :
    l.landingCounter cfg n ≠ .lateInfo ∧ l.landingCounter cfg n ≠ .lateGate := by
  unfold StackLane.landingCounter
  split
  · decide
  · decide

/-- R58, R127: an arrival counts a STACK label, and a label counted before no more. -/
theorem Conserves.retire {r : Record} {younger : List Record} (split : s.track.queue = r :: younger)
    (done : r.commit = .committed) (used : k.val < s.job.job.lanes) : Conserves k 0 s (s.arrived r).retired := by
  have hq : s.track.queue ≠ [] := by rw [split]; exact List.cons_ne_nil _ _
  obtain ⟨landed, others⟩ := State.arrive_counters (r := r) hq k
  rw [(State.arrive_kept hq).1] at landed others
  have queue : (s.arrived r).retired.track.queue = younger := by
    show (s.arrived r).track.queue.tail = younger
    rw [(State.arrived_frame hq).track, split]
    rfl
  rw [Conserves, State.uncounted_eq, State.uncounted_eq, queue, split, List.map_cons]
  by_cases stacked : r.lanes[k.val].outcome = some .stack
  · obtain ⟨info, gate⟩ := StackLane.landingCounter_outcome (s.cfg k) (r.lanes[k.val].stackRef.getD 0) (s.lane k)
    have awaits : awaited (r.label k) = true := by simp [awaited, Record.label, stacked]
    have counters := landed used stacked
    rw [← LaneCounters.uninformed_bump info] at counters
    rw [List.countP_cons_of_pos awaits]
    exact ⟨1, (Counted.bump info gate _).trans (.of_uninformed counters), rfl⟩
  · have counted : awaited (r.label k) = false := by simp [awaited, Record.label, stacked, done]
    rw [List.countP_cons_of_neg (by rw [counted]; decide)]
    exact ⟨0, .of_uninformed (others (.inr stacked)), rfl⟩

theorem Conserves.gateLate (x : GateItem) (rest : List GateItem) :
    Conserves k 0 s (({ s with sched := { s.sched with gate := rest } } : State).reportLateGate x) := by
  refine ⟨0, ?_, rfl⟩
  have counters : (({ s with sched := { s.sched with gate := rest } } : State).reportLateGate x).disp.counters[k.val]
      = if x.lane = k then s.disp.counters[k.val].bump .lateGate else s.disp.counters[k.val] :=
    State.charge_counters ..
  rw [counters]
  split
  · exact fun b below _ => ⟨below, rfl⟩
  · exact .refl _

/-- R111: every move but a reset and a clearing of lane counters counts each label once. -/
theorem Move.conserves {κ : Kind} (move : Move κ s t) (h : s.QueueShape) (used : k.val < s.job.job.lanes)
    (counts : κ ≠ .lanes ∧ κ ≠ .reset) : Conserves k κ.records s t := by
  cases move with
  | touch touch => exact Touches.conserves (.single touch)
  | tally same => exact .of_same (congrArg (·.disp.counters) same :) (congrArg (·.track.queue) same :)
  | commit r older younger cutLine labelEnd _ split _ open_ _ room =>
    exact .commit h.serialsApart split open_ cutLine labelEnd room used
  | retire r younger _ split done => exact .retire split done used
  | close _ _ =>
    rw [State.closedLanes_eq]
    exact .of_same rfl rfl
  | change j _ _ =>
    rw [State.requestChange_onLane]
    exact .of_same rfl rfl
  | short j _ _ =>
    rw [State.requestChange_onLane]
    exact .of_same rfl rfl
  | gateLate x rest _ => exact .gateLate x rest
  | create anchor origin cls emptied _ _ _ =>
    cases emptied with
    | false => exact .createRecord anchor origin cls
    | true => exact Conserves.createRecord (s := s.clearRing) anchor origin cls
  | hold cause runs _ => exact .enterHold cause runs used
  | clear idle =>
    refine .cleared (h.empty ?_ ?_)
    · rcases idle with state | state <;> rw [state] <;> decide
    · rcases idle with state | state <;> rw [state] <;> decide
  | ends _ => exact Conserves.closeTail
  | lanes j => exact absurd rfl counts.1
  | soft => exact absurd rfl counts.2
  | power straps => exact absurd rfl counts.2
  | _ => exact .of_same rfl rfl

end conserves

/-! ## A command -/

/-- Kinds that keep the lanes in use, and count no counter back. -/
def Kind.Counts (κ : Kind) : Prop :=
  (κ ≠ .lanes ∧ κ ≠ .reset) ∧ ∀ i, κ ≠ .table i

section commands
variable {ks : List Kind} {k : Fin 8} {n : Nat} {s t : State}

theorem Path.conserves (path : Path ks s n t) (kinds : ∀ κ ∈ ks, κ.Counts) (h : s.QueueShape)
    (used : k.val < s.job.job.lanes) : Conserves k n s t := by
  suffices all : t.QueueShape ∧ t.job.job = s.job.job ∧ Conserves k n s t from all.2.2
  induction path with
  | done => exact ⟨h, rfl, .of_same rfl rfl⟩
  | next _ allowed move ih =>
    obtain ⟨shape, job, conserved⟩ := ih
    obtain ⟨counts, not_table⟩ := kinds _ allowed
    have tables := move.allows.tables not_table counts.2
    have job' := (congrArg (·.2.1) tables :)
    exact ⟨move.queueShape shape, job'.trans job, conserved.trans (move.conserves shape (by rw [job]; exact used) counts)⟩

theorem Path.nextSerial (path : Path ks s n t) (not_reset : ∀ κ ∈ ks, κ ≠ .reset) :
    t.track.nextSerial = s.track.nextSerial + BitVec.ofNat 32 n := by
  induction path with
  | done => simp
  | next _ allowed move ih =>
    have step := move.allows.nextSerial (not_reset _ allowed)
    refine Eq.trans step ?_
    show _ + _ = _
    rw [BitVec.ofNat_add, ← BitVec.add_assoc, ← ih]
    rfl

/-- With room in the counters, labels conserved are counted exactly. -/
theorem Conserves.balance (h : Conserves k n s t) (shape : s.QueueShape) (room : s.CountersHaveRoom k) (few : n ≤ 257) :
    t.labelBalance k = s.labelBalance k + n := by
  obtain ⟨j, counted, labels⟩ := h
  obtain ⟨stacked, rejected, wasted, gap, diverted, lost⟩ := room
  have queue : s.uncounted k ≤ 256 := (List.length_filter_le _ _).trans shape.1
  obtain ⟨-, outcomes⟩ := counted 4294966271 ⟨stacked.le, rejected.le, wasted.le, gap.le, diverted.le, lost.le⟩ (by omega)
  unfold State.labelBalance
  omega

/-- An accepted WRITE counts no label and creates no record. -/
theorem Move.table_kept {i : Fin 9} {κ : Kind} (move : Move κ s t) (kind : κ = .link ∨ κ = .table i) :
    t.disp.counters = s.disp.counters ∧ t.track.queue = s.track.queue ∧ t.track.nextSerial = s.track.nextSerial := by
  cases move with
  | link => exact ⟨rfl, rfl, rfl⟩
  | held => exact ⟨rfl, rfl, rfl⟩
  | job => exact ⟨rfl, rfl, rfl⟩
  | station => exact ⟨rfl, rfl, rfl⟩
  | loop => exact ⟨rfl, rfl, rfl⟩
  | sensor => exact ⟨rfl, rfl, rfl⟩
  | lane => exact ⟨rfl, rfl, rfl⟩
  | disp => exact ⟨rfl, rfl, rfl⟩
  | override => exact ⟨rfl, rfl, rfl⟩
  | sched => exact ⟨rfl, rfl, rfl⟩
  | _ => simp at kind

theorem Path.table_kept {i : Fin 9} (path : Path [.link, .table i] s n t) :
    t.disp.counters = s.disp.counters ∧ t.track.queue = s.track.queue ∧ t.track.nextSerial = s.track.nextSerial :=
  path.keeps (P := fun u => u.disp.counters = s.disp.counters ∧ u.track.queue = s.track.queue
      ∧ u.track.nextSerial = s.track.nextSerial)
    (fun κ allowed _ _ move ⟨counters, queue, serial⟩ => by
      obtain ⟨counters', queue', serial'⟩ := move.table_kept (i := i) (by simpa using allowed)
      exact ⟨counters'.trans counters, queue'.trans queue, serial'.trans serial⟩)
    ⟨rfl, rfl, rfl⟩

theorem permits_lanes {c : Instr} (h : .lanes ∈ permits c) : clearsLaneCounters c = true := by
  cases c with
  | readCounters selector clear =>
    rw [permits] at h
    split at h
    · next clears => exact clears
    · simp at h
  | _ => simp [permits] at h

end commands

/-- Settles O42: every move counts each label once, a WRITE none; and the serials count the records created. -/
theorem labelsAreConserved : Obligations.LabelsAreConserved := by
  intro c s t k shape room used keeps next
  obtain ⟨n, few, path⟩ := exec_runs next
  have not_reset : ∀ κ ∈ permits c, κ ≠ .reset := by
    rintro _ allowed rfl
    rcases permits_reset allowed with ⟨straps, rfl⟩ | rfl
    · cases keeps
    · cases keeps
  by_cases written : tableWritten c = 0
  · have kinds : ∀ κ ∈ permits c, κ.Counts := by
      refine fun κ allowed => ⟨⟨?_, not_reset κ allowed⟩, ?_⟩
      · rintro rfl
        rw [permits_lanes allowed] at keeps
        cases keeps
      · rintro i rfl
        obtain ⟨same, other⟩ := permits_table allowed
        exact other (same.trans written)
    have serials := path.nextSerial not_reset
    have created : (t.track.nextSerial - s.track.nextSerial).toNat = n := by
      rw [serials, add_sub_cancel_left, BitVec.toNat_ofNat]
      exact Nat.mod_eq_of_lt (by omega)
    rw [created]
    exact (path.conserves kinds shape used).balance shape room few
  · rw [permits_of_written written] at path
    obtain ⟨counters, queue, serial⟩ := path.table_kept
    rw [serial, BitVec.sub_self, State.labelBalance, State.labelBalance, State.uncounted, State.uncounted, counters,
      queue]
    rfl

end Sys2Proof.Machine
end

section
/-! An advance: the predictions until none is left, and the sweeps, each transition at its point: O19. -/

namespace Sys2Proof.Machine

/-! ## The predictions come to an end -/

section predictions
variable {s t : State}

theorem State.createRecord_length (s : State) (anchor : Word) (origin : Origin) (cls : RegState) :
    (s.createRecord anchor origin cls).track.queue.length = s.track.queue.length + 1 := by
  have slip : s.countSlip.track = s.track := by rw [State.countSlip_eq]
  rw [(s.createRecord_kept anchor origin cls).1, (s.withNext_touches anchor origin cls).queue_length]
  show (s.countSlip.track.queue ++ [_]).length = _
  rw [slip, List.length_append]
  rfl

theorem State.predictMark_length {cls : RegState} (room : s.track.queue.length < 256) :
    (s.predictMark cls).track.queue.length = s.track.queue.length + 1 := by
  rcases Nat.lt_or_ge s.job.job.missingLimit (s.reg.missing + 1) with past | within
  · have track : (s.setRegState .free).track = s.track := by
      unfold State.setRegState
      split <;> rfl
    rw [State.predictMark_past room past, State.createRecord_length]
    exact congrArg (fun u : Tracking => u.queue.length + 1) track
  · rw [State.predictMark_within room within, State.createRecord_length]
    rfl

/-- R48: a prediction adds a record, or finds the queue full and leaves none to follow. -/
theorem State.predictOne_grows (h : s.predictOne = some t) : t.predictOne = none
    ∨ t.track.queue.length = s.track.queue.length + 1 ∧ s.track.queue.length < 256 := by
  rcases Nat.lt_or_ge s.track.queue.length 256 with room | full
  · refine .inr ⟨?_, room⟩
    have run := (State.predictOne_withRoom s t h).1
    by_cases hf : s.reg.state = .free
    · rw [State.predictOne_free run hf, Option.ite_none_right_eq_some] at h
      rw [← Option.some.inj h.2, State.predictFree, State.withRoom_room _ _ room, State.createRecord_length]
    · rw [State.predictOne_registered run hf, Option.ite_none_right_eq_some] at h
      rw [← Option.some.inj h.2, State.predictMark_length room]
  · obtain ⟨run, f, rfl⟩ := State.predictOne_withRoom s t h
    have runs : s.running = true := (State.running_iff s).2 (.inl run)
    refine .inl (State.predictOne_idle ?_)
    rw [State.withRoom_full _ _ full, State.enterHold_eq _ _ runs]
    exact nofun

/-- R11, R48: with a prediction to spare for every free place, none is left. -/
theorem State.predictUpTo_done {fuel : Nat} (enough : s.predictOne = none ∨ 256 < fuel + s.track.queue.length ∧ 1 ≤ fuel) :
    (s.predictUpTo fuel).predictOne = none := by
  induction fuel generalizing s with
  | zero => exact enough.resolve_right (by omega)
  | succ fuel ih =>
    rw [State.predictUpTo]
    split
    · next t made =>
      rcases State.predictOne_grows made with none | ⟨grown, room⟩
      · exact ih (.inl none)
      · refine ih (.inr ?_)
        rcases enough with none | ⟨enough, -⟩
        · rw [made] at none
          cases none
        · omega
    · next none => exact none

theorem State.predictUpTo_of_none (none : s.predictOne = none) (fuel : Nat) : s.predictUpTo fuel = s := by
  cases fuel with
  | zero => rfl
  | succ fuel => rw [State.predictUpTo, none]

theorem State.predictUpTo_succ {fuel : Nat} (done : (s.predictUpTo fuel).predictOne = none) :
    s.predictUpTo (fuel + 1) = s.predictUpTo fuel := by
  induction fuel generalizing s with
  | zero => exact State.predictUpTo_of_none done 1
  | succ fuel ih =>
    rcases made : s.predictOne with _ | t
    · rw [State.predictUpTo_of_none made, State.predictUpTo_of_none made]
    · have step : ∀ n, s.predictUpTo (n + 1) = t.predictUpTo n := fun n => by rw [State.predictUpTo, made]
      rw [step fuel] at done
      rw [step, step, ih done]

theorem State.predictAll_done (s : State) : s.predictAll.predictOne = none := by
  refine State.predictUpTo_done (.inr ⟨?_, by decide⟩)
  show 256 < 257 + s.track.queue.length
  omega

theorem State.predictAll_next (h : s.predictOne = some t) : s.predictAll = t.predictAll := by
  have made : s.predictAll = t.predictUpTo 256 := by
    show s.predictUpTo (256 + 1) = _
    rw [State.predictUpTo, h]
  rw [made]
  refine (State.predictUpTo_succ (State.predictUpTo_done ?_)).symm
  rcases State.predictOne_grows h with none | ⟨grown, -⟩
  · exact .inl none
  · exact .inr ⟨by omega, by decide⟩

end predictions

/-! ## What an advance leaves alone -/

/-- The settings but for the next serial, the job state and the hold cause. -/
def Settings.SteadyFrom (a b : Settings) : Prop :=
  b = { a with nextSerial := b.nextSerial, job := { a.job with state := b.job.state, cause := b.job.cause } }

theorem Settings.SteadyFrom.trans {a b c : Settings} (h : a.SteadyFrom b) (h' : b.SteadyFrom c) : a.SteadyFrom c := by
  unfold Settings.SteadyFrom at *
  rw [h] at h'
  exact h'

theorem Kind.Allows.steady {κ : Kind} {a b : Settings} (h : κ.Allows a b) (kind : κ ∈ [Kind.plain, .create, .hold, .finish]) :
    a.SteadyFrom b := by
  unfold Settings.SteadyFrom
  simp only [List.mem_cons, List.not_mem_nil, or_false] at kind
  rcases kind with rfl | rfl | rfl | rfl
  · rw [show b = a from h]
  · rw [show b = { a with nextSerial := a.nextSerial + 1#32 } from h]
  · rw [h.2]
  · rw [h.2]

/-- R11: beyond P, an advance is predictions and sweeps. -/
theorem Path.advanced (s : State) (u : State) (hu : u = s.predictAll) :
    ∃ n, Path [.plain, .create, .hold, .finish] s n (if u.running then u.sweeps else u) := by
  obtain ⟨n, -, predicted⟩ := Path.predictUpTo 257 s
  have all : Path [.plain, .create, .hold, .finish] s n u := hu ▸ predicted.mono (by decide)
  refine ⟨n, ?_⟩
  split
  · next runs => exact all.trans ((Path.sweeps _ runs).mono (by decide))
  · exact all

/-! ## Transitions of one record -/

section absent
variable {s : State} {n : Word}

theorem State.fromSerial_absent (absent : ∀ x ∈ s.track.queue, x.serial ≠ n) : s.fromSerial n = [] :=
  List.dropWhile_eq_nil_iff.2 (by simpa using absent)

/-- R49: with no record of the serial, no transition is taken. -/
theorem State.steps_absent (absent : ∀ x ∈ s.track.queue, x.serial ≠ n) :
    (∀ f, s.withRecord n f = s) ∧ s.commitStep n = s ∧ s.arrivalStep n = s := by
  have gone := State.fromSerial_absent absent
  refine ⟨fun f => ?_, ?_, ?_⟩
  · rw [State.withRecord, gone]
    rfl
  · rw [State.commitStep, gone]
  · cases hq : s.track.queue with
    | nil => simp only [State.arrivalStep, hq]
    | cons r younger =>
      have other : r.serial ≠ n := absent r (by rw [hq]; simp)
      unfold State.arrivalStep
      simp only [hq]
      split
      · exact if_neg fun due => other due.1
      · rfl

end absent

section present
variable {s : State} {older younger : List Record} {r : Record}

theorem State.withRecord_split (apart : s.SerialsApart) (hq : s.track.queue = older ++ r :: younger)
    (f : Record → State → State) : s.withRecord r.serial f = f r s := by
  rw [State.withRecord, s.fromSerial_split older younger r hq (apart.others s older younger r hq).1]
  rfl

theorem State.lateTransition_late (apart : s.SerialsApart) (hq : s.track.queue = older ++ r :: younger) {line : Word}
    (queued : r.cut = .queued) (cutLine : r.cutLine = some line)
    (late : s.cutPosLate (shift line s.job.station.dK) = true) : s.lateTransition r
      = ({ s with
          track := { s.track with queue := older ++ { r with cut := .late, check := .noCheck } :: younger }
          sched := { s.sched with knife := s.sched.knife.filter (·.serial != r.serial) } } : State).lateCutEffects
            r.serial := by
  have cutPos : s.cutPos r = some (shift line s.job.station.dK) := by rw [State.cutPos, cutLine]; rfl
  unfold State.lateTransition
  simp only [queued, cutPos]
  rw [if_pos late, State.lateQueued]
  have apart' : (s.onSched fun q => { q with knife := q.knife.filter (·.serial != r.serial) }).SerialsApart := apart
  exact congrArg (State.lateCutEffects r.serial) (State.onRecord_of_serialsApart _ _ older younger r hq apart')

theorem State.lateTransition_stays
    (h : r.cut ≠ .queued ∨ r.cutLine.any (fun line => s.cutPosLate (shift line s.job.station.dK)) = false) :
    s.lateTransition r = s := by
  unfold State.lateTransition
  split
  · next cutPos queued found =>
    obtain ⟨line, cutLine, rfl⟩ := Option.map_eq_some_iff.1 found
    have inTime := h.resolve_left fun other => other queued
    rw [cutLine, Option.any_some] at inTime
    exact if_neg (ne_true_of_eq_false inTime)
  · rfl

theorem State.expiryTransition_expired (apart : s.SerialsApart) (hq : s.track.queue = older ++ r :: younger) {line : Word}
    (sent : r.cut = .sent) (unchecked : r.check = .unchecked) (cutLine : r.cutLine = some line)
    (expired : s.checkExpired (shift line s.job.station.dK) = true) : s.expiryTransition r
      = { s with track := { s.track with queue := older ++ { r with check := .noCheck } :: younger } } := by
  have cutPos : s.cutPos r = some (shift line s.job.station.dK) := by rw [State.cutPos, cutLine]; rfl
  unfold State.expiryTransition
  simp only [r.eligible_iff.2 ⟨sent, unchecked⟩, cutPos]
  rw [if_pos expired, s.onRecord_of_serialsApart _ older younger r hq apart]

theorem State.expiryTransition_stays (h : r.cut ≠ .sent ∨ r.check ≠ .unchecked
      ∨ r.cutLine.any (fun line => s.checkExpired (shift line s.job.station.dK)) = false) :
    s.expiryTransition r = s := by
  unfold State.expiryTransition
  split
  · next cutPos eligible found =>
    obtain ⟨sent, unchecked⟩ := r.eligible_iff.1 eligible
    obtain ⟨line, cutLine, rfl⟩ := Option.map_eq_some_iff.1 found
    have waits := (h.resolve_left fun other => other sent).resolve_left fun other => other unchecked
    rw [cutLine, Option.any_some] at waits
    exact if_neg (ne_true_of_eq_false waits)
  · rfl

theorem State.commitStep_commits (apart : s.SerialsApart) (hq : s.track.queue = older ++ r :: younger) {line stop : Word}
    (open_ : r.commit = .uncommitted) (first : ∀ x ∈ older, x.commit = .committed) (cutLine : r.cutLine = some line)
    (labelEnd : s.labelEnd r younger.head? = some stop) (reached : s.commitPoint line = true) :
    s.commitStep r.serial = s.commit r line stop := by
  have others := (apart.others s older younger r hq).1
  have all : (s.olderThan r.serial).all (·.commit == .committed) = true := by
    rw [s.olderThan_split older younger r hq others]
    simpa using first
  unfold State.commitStep
  simp only [s.fromSerial_split older younger r hq others, open_, cutLine, labelEnd]
  exact if_pos ⟨all, reached⟩

theorem State.commitStep_waits (apart : s.SerialsApart) (hq : s.track.queue = older ++ r :: younger)
    (h : r.commit = .committed ∨ (∃ x ∈ older, x.commit = .uncommitted) ∨ s.labelEnd r younger.head? = none
      ∨ r.cutLine.any s.commitPoint = false) : s.commitStep r.serial = s := by
  have others := (apart.others s older younger r hq).1
  unfold State.commitStep
  simp only [s.fromSerial_split older younger r hq others]
  split
  · next line stop open_ cutLine labelEnd =>
    refine if_neg fun ⟨all, reached⟩ => ?_
    rw [s.olderThan_split older younger r hq others] at all
    rcases h with committed | ⟨x, hx, uncommitted⟩ | none | before
    · rw [open_] at committed
      cases committed
    · have committed := List.all_eq_true.1 all x hx
      rw [uncommitted] at committed
      cases committed
    · rw [labelEnd] at none
      cases none
    · rw [cutLine, Option.any_some, reached] at before
      cases before
  · rfl

theorem State.arrivalStep_arrives (hq : s.track.queue = r :: younger) {stop : Word} (done : r.commit = .committed)
    (labelEnd : s.labelEnd r younger.head? = some stop)
    (reached : atOrBeyond s.track.pos (shift stop s.job.station.dS) = true) :
    s.arrivalStep r.serial = s.arrive r := by
  unfold State.arrivalStep
  simp only [hq, done, labelEnd]
  exact if_pos ⟨trivial, reached⟩

theorem State.arrivalStep_waits (apart : s.SerialsApart) (hq : s.track.queue = older ++ r :: younger)
    (h : older ≠ [] ∨ r.commit = .uncommitted
      ∨ (s.labelEnd r younger.head?).any (fun stop => atOrBeyond s.track.pos (shift stop s.job.station.dS)) = false) :
    s.arrivalStep r.serial = s := by
  unfold State.arrivalStep
  cases older with
  | cons x xs =>
    have other : x.serial ≠ r.serial := (apart.others s (x :: xs) younger r hq).1 x (by simp)
    simp only [hq, List.cons_append]
    split
    · exact if_neg fun due => other due.1
    · rfl
  | nil =>
    have waits := h.resolve_left fun other => other rfl
    simp only [hq, List.nil_append]
    split
    · next stop done labelEnd =>
      refine if_neg fun ⟨_, reached⟩ => ?_
      rcases waits with open_ | before
      · rw [done] at open_
        cases open_
      · rw [labelEnd, Option.any_some, reached] at before
        cases before
    · rfl

end present

/-- Settles O19: the predictions by the growth of the queue, what an advance leaves alone by its moves, and each
transition by the record of its serial. -/
theorem advanceTakesWhatIsDue : Obligations.AdvanceTakesWhatIsDue := by
  refine ⟨fun reported s ha hr low high => ?_, fun s => ⟨fun none => State.predictUpTo_of_none none _,
    fun t made => State.predictAll_next made⟩, fun s => rfl, fun s n absent => State.steps_absent absent,
    fun s older younger r apart hq => ?_⟩
  · let p : State := s.setPos reported
    obtain ⟨n, path⟩ := Path.advanced p p.predictAll rfl
    have steady : p.settings.SteadyFrom _ :=
      path.relates (R := Settings.SteadyFrom) (fun _ => rfl) (fun _ _ _ => Settings.SteadyFrom.trans) fun κ kind _ _ allowed => allowed.steady kind
    refine ⟨p.predictAll, if p.predictAll.running then p.predictAll.sweeps else p.predictAll, rfl, p.predictAll_done, ?_,
      fun runs => if_pos runs, fun held => if_neg (ne_true_of_eq_false held), ?_⟩
    · rw [exec_webpos_of_running _ s ha hr, if_neg (by omega), if_neg (by omega), if_pos (by omega)]
      rfl
    · generalize (if p.predictAll.running then p.predictAll.sweeps else p.predictAll) = t at steady
      exact ⟨(congrArg (·.pos) steady :), (congrArg (·.posHeld) steady :), (congrArg (·.link) steady :),
        (congrArg (·.job.job) steady :), (congrArg (·.job.station) steady :), (congrArg (·.job.loop) steady :),
        (congrArg (·.edges) steady :), (congrArg (·.disp) steady :), (congrArg (·.overrides) steady :),
        (congrArg (·.cfg) steady :), (congrArg (·.table) steady :), (congrArg (·.integral) steady :),
        (congrArg (·.target) steady :)⟩
  · intro now late expired commits arrives labelEnd
    have same : labelEnd = s.labelEnd r younger.head? := by cases younger <;> rfl
    clear_value labelEnd
    subst same
    refine ⟨fun f => State.withRecord_split apart hq f, fun line => State.lateTransition_late apart hq,
      State.lateTransition_stays, fun line => State.expiryTransition_expired apart hq, State.expiryTransition_stays,
      fun line stop => State.commitStep_commits apart hq, State.commitStep_waits apart hq,
      fun stop oldest done labelEnd reached => ?_, State.arrivalStep_waits apart hq⟩
    subst oldest
    exact State.arrivalStep_arrives hq done labelEnd reached

end Sys2Proof.Machine
end
